-- ==== Sys2Proof/Word.lean ====
section
/-! DEFINITION. The two widths of the machine: 8-bit data, 16-bit addresses (00_scope.md R5). -/

namespace Sys2Proof

/-- A data byte: a register other than `PC`, or a memory cell (R5). -/
abbrev Byte := BitVec 8

/-- A 16-bit address, the width of `PC` (R5). -/
abbrev Addr := BitVec 16

end Sys2Proof
end

