-- ==== Sys2Proof/Config.lean ====
section
/-! DEFINITION. The four parameters of the model (00_scope.md R6), each at the spec's default, and the one value no
table row uses. -/

namespace Sys2Proof

/-- `P_DECIMAL` (R6, R172): what the decimal-sensitive instructions do when `P.D = 1`. -/
inductive DecimalPolicy where
  /-- The step is refused before it changes anything but `status` (R305, R306). -/
  | refuse
  /-- `P.D` is ignored. -/
  | binary
  /-- The NMOS decimal algorithms of R173 and R174. -/
  | nmos
  deriving DecidableEq, Repr

/-- `P_ILLEGAL` (R6, R104): whether the 85 stable undocumented opcodes are mapped. -/
inductive IllegalPolicy where
  | stable
  /-- The spec's `None`: they raise the illegal-opcode fault. -/
  | none
  deriving DecidableEq, Repr

/-- The two parameters that a step reads. DESIGN CHOICE (log 1): State carries them. -/
structure Policy where
  decimal : DecimalPolicy := .refuse
  illegal : IllegalPolicy := .stable
  deriving DecidableEq, Repr

/-- All four parameters of R6: `P_START`, `P_IMAGE`, and the two of `Policy`. -/
structure Params where
  start : Addr := 0x0600
  image : List (Addr × Byte) := []
  policy : Policy := {}
  deriving DecidableEq, Repr

/-- What `readOperand` answers where R101 does not apply `ReadOperand` (an operand `None` or `Rel`). It has no body
that a proof can see, and no row of the opcode table reaches it. DESIGN CHOICE (log 6). -/
opaque Config.unappliedOperand : Byte

end Sys2Proof
end

