-- ==== Sys2Proof/Syntax.lean ====
section
/-! DEFINITION. Instructions as syntax: one constructor per row of spec/opcode_table.json (30_encoding.md R102), the
addressing modes with the operand bytes they carry (R82), and the descriptor of a row (R85). -/

namespace Sys2Proof

/-- The mnemonic of a row, as spec/opcode_table.json names it; JAM, ANE, LXA, SHA, SHX, SHY, TAS and LAS name the
unmapped bytes (R105, R106). -/
inductive Mnemonic where
  | adc | alr | anc | and | ane | arr | asl | bcc | bcs | beq
  | bit | bmi | bne | bpl | brk | bvc | bvs | clc | cld | cli
  | clv | cmp | cpx | cpy | dcp | dec | dex | dey | eor | inc
  | inx | iny | isc | jam | jmp | jsr | las | lax | lda | ldx
  | ldy | lsr | lxa | nop | ora | pha | php | pla | plp | rla
  | rol | ror | rra | rti | rts | sax | sbc | sbx | sec | sed
  | sei | sha | shx | shy | slo | sre | sta | stx | sty | tas
  | tax | tay | tsx | txa | txs | tya
  deriving DecidableEq, Repr

/-- The thirteen addressing modes with the operand bytes each carries (R82, R87 to R99). -/
inductive AddrMode where
  | implied
  | accumulator
  | immediate (v : Byte)
  | zeroPage (zp : Byte)
  | zeroPageX (zp : Byte)
  | zeroPageY (zp : Byte)
  | absolute (addr : Addr)
  | absoluteX (addr : Addr)
  | absoluteY (addr : Addr)
  | indirect (ptr : Addr)
  | indirectX (zp : Byte)
  | indirectY (zp : Byte)
  | relative (off : Byte)
  deriving DecidableEq, Repr

/-- The class of a row (R100); `other` is the table's "-". -/
inductive OpClass where
  | read | write | rmw | branch | other
  deriving DecidableEq, Repr

/-- The set of a row: legal (R103), stable illegal (R104), unmapped (R105, R106). -/
inductive OpSet where
  | legal | illegal | unmapped
  deriving DecidableEq, Repr

/-- One row of R102's per-opcode table (R85). An unmapped row has no descriptor in the spec: its length is the table's
1 byte, written as the implied mode, and its cost 0 is what R86 adds for it. -/
structure Descriptor where
  opcode : Byte
  mnemonic : Mnemonic
  mode : AddrMode
  base : Nat
  penalty : Bool
  cls : OpClass
  set : OpSet
  deriving DecidableEq, Repr

/-- The twelve processor-halt opcodes (R105), each named by its opcode byte. -/
inductive JamOpcode where
  | x02 | x12 | x22 | x32 | x42 | x52 | x62 | x72 | x92 | xB2 | xD2 | xF2
  deriving DecidableEq, Repr

/-- The two opcodes named SHA (R106), each named by its opcode byte. -/
inductive ShaOpcode where
  | x93 | x9F
  deriving DecidableEq, Repr

/-- An instruction: one constructor per opcode byte, carrying its operand byte or word (R80, R82). The name is the
mnemonic and the mode; rows that would share one carry their opcode byte. The twelve JAM rows, which have one effect,
share `jam`, and the two SHA rows `sha`, whose field is the opcode byte: Lean compiles no inductive type with more than
244 constructors. DESIGN CHOICE (log 8). -/
inductive Instr where
  /-- 0x00 BRK implied (R233). -/
  | brk
  /-- 0x01 ORA (indirect,X) (R202). -/
  | oraIndX (zp : Byte)
  /-- 0x02, 0x12, 0x22, 0x32, 0x42, 0x52, 0x62, 0x72, 0x92, 0xB2, 0xD2, 0xF2 JAM, unmapped (R105). -/
  | jam (op : JamOpcode)
  /-- 0x03 SLO (indirect,X) (R261), stable illegal. -/
  | sloIndX (zp : Byte)
  /-- 0x04 NOP zero page (R274), stable illegal. -/
  | nopZp04 (zp : Byte)
  /-- 0x05 ORA zero page (R202). -/
  | oraZp (zp : Byte)
  /-- 0x06 ASL zero page (R205). -/
  | aslZp (zp : Byte)
  /-- 0x07 SLO zero page (R261), stable illegal. -/
  | sloZp (zp : Byte)
  /-- 0x08 PHP implied (R157). -/
  | php
  /-- 0x09 ORA immediate (R202). -/
  | oraImm (v : Byte)
  /-- 0x0A ASL accumulator (R205). -/
  | aslAcc
  /-- 0x0B ANC immediate (R269), stable illegal. -/
  | ancImm0B (v : Byte)
  /-- 0x0C NOP absolute (R274), stable illegal. -/
  | nopAbs0C (addr : Addr)
  /-- 0x0D ORA absolute (R202). -/
  | oraAbs (addr : Addr)
  /-- 0x0E ASL absolute (R205). -/
  | aslAbs (addr : Addr)
  /-- 0x0F SLO absolute (R261), stable illegal. -/
  | sloAbs (addr : Addr)
  /-- 0x10 BPL relative (R221). -/
  | bpl (off : Byte)
  /-- 0x11 ORA (indirect),Y (R202). -/
  | oraIndY (zp : Byte)
  /-- 0x13 SLO (indirect),Y (R261), stable illegal. -/
  | sloIndY (zp : Byte)
  /-- 0x14 NOP zero page,X (R274), stable illegal. -/
  | nopZpX14 (zp : Byte)
  /-- 0x15 ORA zero page,X (R202). -/
  | oraZpX (zp : Byte)
  /-- 0x16 ASL zero page,X (R205). -/
  | aslZpX (zp : Byte)
  /-- 0x17 SLO zero page,X (R261), stable illegal. -/
  | sloZpX (zp : Byte)
  /-- 0x18 CLC implied (R235). -/
  | clc
  /-- 0x19 ORA absolute,Y (R202). -/
  | oraAbsY (addr : Addr)
  /-- 0x1A NOP implied (R274), stable illegal. -/
  | nopImp1A
  /-- 0x1B SLO absolute,Y (R261), stable illegal. -/
  | sloAbsY (addr : Addr)
  /-- 0x1C NOP absolute,X (R274), stable illegal. -/
  | nopAbsX1C (addr : Addr)
  /-- 0x1D ORA absolute,X (R202). -/
  | oraAbsX (addr : Addr)
  /-- 0x1E ASL absolute,X (R205). -/
  | aslAbsX (addr : Addr)
  /-- 0x1F SLO absolute,X (R261), stable illegal. -/
  | sloAbsX (addr : Addr)
  /-- 0x20 JSR absolute (R230). -/
  | jsrAbs (addr : Addr)
  /-- 0x21 AND (indirect,X) (R201). -/
  | andIndX (zp : Byte)
  /-- 0x23 RLA (indirect,X) (R262), stable illegal. -/
  | rlaIndX (zp : Byte)
  /-- 0x24 BIT zero page (R204). -/
  | bitZp (zp : Byte)
  /-- 0x25 AND zero page (R201). -/
  | andZp (zp : Byte)
  /-- 0x26 ROL zero page (R207). -/
  | rolZp (zp : Byte)
  /-- 0x27 RLA zero page (R262), stable illegal. -/
  | rlaZp (zp : Byte)
  /-- 0x28 PLP implied (R159). -/
  | plp
  /-- 0x29 AND immediate (R201). -/
  | andImm (v : Byte)
  /-- 0x2A ROL accumulator (R207). -/
  | rolAcc
  /-- 0x2B ANC immediate (R269), stable illegal. -/
  | ancImm2B (v : Byte)
  /-- 0x2C BIT absolute (R204). -/
  | bitAbs (addr : Addr)
  /-- 0x2D AND absolute (R201). -/
  | andAbs (addr : Addr)
  /-- 0x2E ROL absolute (R207). -/
  | rolAbs (addr : Addr)
  /-- 0x2F RLA absolute (R262), stable illegal. -/
  | rlaAbs (addr : Addr)
  /-- 0x30 BMI relative (R222). -/
  | bmi (off : Byte)
  /-- 0x31 AND (indirect),Y (R201). -/
  | andIndY (zp : Byte)
  /-- 0x33 RLA (indirect),Y (R262), stable illegal. -/
  | rlaIndY (zp : Byte)
  /-- 0x34 NOP zero page,X (R274), stable illegal. -/
  | nopZpX34 (zp : Byte)
  /-- 0x35 AND zero page,X (R201). -/
  | andZpX (zp : Byte)
  /-- 0x36 ROL zero page,X (R207). -/
  | rolZpX (zp : Byte)
  /-- 0x37 RLA zero page,X (R262), stable illegal. -/
  | rlaZpX (zp : Byte)
  /-- 0x38 SEC implied (R236). -/
  | sec
  /-- 0x39 AND absolute,Y (R201). -/
  | andAbsY (addr : Addr)
  /-- 0x3A NOP implied (R274), stable illegal. -/
  | nopImp3A
  /-- 0x3B RLA absolute,Y (R262), stable illegal. -/
  | rlaAbsY (addr : Addr)
  /-- 0x3C NOP absolute,X (R274), stable illegal. -/
  | nopAbsX3C (addr : Addr)
  /-- 0x3D AND absolute,X (R201). -/
  | andAbsX (addr : Addr)
  /-- 0x3E ROL absolute,X (R207). -/
  | rolAbsX (addr : Addr)
  /-- 0x3F RLA absolute,X (R262), stable illegal. -/
  | rlaAbsX (addr : Addr)
  /-- 0x40 RTI implied (R232). -/
  | rti
  /-- 0x41 EOR (indirect,X) (R203). -/
  | eorIndX (zp : Byte)
  /-- 0x43 SRE (indirect,X) (R263), stable illegal. -/
  | sreIndX (zp : Byte)
  /-- 0x44 NOP zero page (R274), stable illegal. -/
  | nopZp44 (zp : Byte)
  /-- 0x45 EOR zero page (R203). -/
  | eorZp (zp : Byte)
  /-- 0x46 LSR zero page (R206). -/
  | lsrZp (zp : Byte)
  /-- 0x47 SRE zero page (R263), stable illegal. -/
  | sreZp (zp : Byte)
  /-- 0x48 PHA implied (R156). -/
  | pha
  /-- 0x49 EOR immediate (R203). -/
  | eorImm (v : Byte)
  /-- 0x4A LSR accumulator (R206). -/
  | lsrAcc
  /-- 0x4B ALR immediate (R270), stable illegal. -/
  | alrImm (v : Byte)
  /-- 0x4C JMP absolute (R229). -/
  | jmpAbs (addr : Addr)
  /-- 0x4D EOR absolute (R203). -/
  | eorAbs (addr : Addr)
  /-- 0x4E LSR absolute (R206). -/
  | lsrAbs (addr : Addr)
  /-- 0x4F SRE absolute (R263), stable illegal. -/
  | sreAbs (addr : Addr)
  /-- 0x50 BVC relative (R223). -/
  | bvc (off : Byte)
  /-- 0x51 EOR (indirect),Y (R203). -/
  | eorIndY (zp : Byte)
  /-- 0x53 SRE (indirect),Y (R263), stable illegal. -/
  | sreIndY (zp : Byte)
  /-- 0x54 NOP zero page,X (R274), stable illegal. -/
  | nopZpX54 (zp : Byte)
  /-- 0x55 EOR zero page,X (R203). -/
  | eorZpX (zp : Byte)
  /-- 0x56 LSR zero page,X (R206). -/
  | lsrZpX (zp : Byte)
  /-- 0x57 SRE zero page,X (R263), stable illegal. -/
  | sreZpX (zp : Byte)
  /-- 0x58 CLI implied (R237). -/
  | cli
  /-- 0x59 EOR absolute,Y (R203). -/
  | eorAbsY (addr : Addr)
  /-- 0x5A NOP implied (R274), stable illegal. -/
  | nopImp5A
  /-- 0x5B SRE absolute,Y (R263), stable illegal. -/
  | sreAbsY (addr : Addr)
  /-- 0x5C NOP absolute,X (R274), stable illegal. -/
  | nopAbsX5C (addr : Addr)
  /-- 0x5D EOR absolute,X (R203). -/
  | eorAbsX (addr : Addr)
  /-- 0x5E LSR absolute,X (R206). -/
  | lsrAbsX (addr : Addr)
  /-- 0x5F SRE absolute,X (R263), stable illegal. -/
  | sreAbsX (addr : Addr)
  /-- 0x60 RTS implied (R231). -/
  | rts
  /-- 0x61 ADC (indirect,X) (R175). -/
  | adcIndX (zp : Byte)
  /-- 0x63 RRA (indirect,X) (R264), stable illegal. -/
  | rraIndX (zp : Byte)
  /-- 0x64 NOP zero page (R274), stable illegal. -/
  | nopZp64 (zp : Byte)
  /-- 0x65 ADC zero page (R175). -/
  | adcZp (zp : Byte)
  /-- 0x66 ROR zero page (R208). -/
  | rorZp (zp : Byte)
  /-- 0x67 RRA zero page (R264), stable illegal. -/
  | rraZp (zp : Byte)
  /-- 0x68 PLA implied (R158). -/
  | pla
  /-- 0x69 ADC immediate (R175). -/
  | adcImm (v : Byte)
  /-- 0x6A ROR accumulator (R208). -/
  | rorAcc
  /-- 0x6B ARR immediate (R271), stable illegal. -/
  | arrImm (v : Byte)
  /-- 0x6C JMP indirect (R229). -/
  | jmpInd (ptr : Addr)
  /-- 0x6D ADC absolute (R175). -/
  | adcAbs (addr : Addr)
  /-- 0x6E ROR absolute (R208). -/
  | rorAbs (addr : Addr)
  /-- 0x6F RRA absolute (R264), stable illegal. -/
  | rraAbs (addr : Addr)
  /-- 0x70 BVS relative (R224). -/
  | bvs (off : Byte)
  /-- 0x71 ADC (indirect),Y (R175). -/
  | adcIndY (zp : Byte)
  /-- 0x73 RRA (indirect),Y (R264), stable illegal. -/
  | rraIndY (zp : Byte)
  /-- 0x74 NOP zero page,X (R274), stable illegal. -/
  | nopZpX74 (zp : Byte)
  /-- 0x75 ADC zero page,X (R175). -/
  | adcZpX (zp : Byte)
  /-- 0x76 ROR zero page,X (R208). -/
  | rorZpX (zp : Byte)
  /-- 0x77 RRA zero page,X (R264), stable illegal. -/
  | rraZpX (zp : Byte)
  /-- 0x78 SEI implied (R238). -/
  | sei
  /-- 0x79 ADC absolute,Y (R175). -/
  | adcAbsY (addr : Addr)
  /-- 0x7A NOP implied (R274), stable illegal. -/
  | nopImp7A
  /-- 0x7B RRA absolute,Y (R264), stable illegal. -/
  | rraAbsY (addr : Addr)
  /-- 0x7C NOP absolute,X (R274), stable illegal. -/
  | nopAbsX7C (addr : Addr)
  /-- 0x7D ADC absolute,X (R175). -/
  | adcAbsX (addr : Addr)
  /-- 0x7E ROR absolute,X (R208). -/
  | rorAbsX (addr : Addr)
  /-- 0x7F RRA absolute,X (R264), stable illegal. -/
  | rraAbsX (addr : Addr)
  /-- 0x80 NOP immediate (R274), stable illegal. -/
  | nopImm80 (v : Byte)
  /-- 0x81 STA (indirect,X) (R134). -/
  | staIndX (zp : Byte)
  /-- 0x82 NOP immediate (R274), stable illegal. -/
  | nopImm82 (v : Byte)
  /-- 0x83 SAX (indirect,X) (R265), stable illegal. -/
  | saxIndX (zp : Byte)
  /-- 0x84 STY zero page (R136). -/
  | styZp (zp : Byte)
  /-- 0x85 STA zero page (R134). -/
  | staZp (zp : Byte)
  /-- 0x86 STX zero page (R135). -/
  | stxZp (zp : Byte)
  /-- 0x87 SAX zero page (R265), stable illegal. -/
  | saxZp (zp : Byte)
  /-- 0x88 DEY implied (R186). -/
  | dey
  /-- 0x89 NOP immediate (R274), stable illegal. -/
  | nopImm89 (v : Byte)
  /-- 0x8A TXA implied (R152). -/
  | txa
  /-- 0x8B ANE, unmapped (R106). -/
  | ane8B
  /-- 0x8C STY absolute (R136). -/
  | styAbs (addr : Addr)
  /-- 0x8D STA absolute (R134). -/
  | staAbs (addr : Addr)
  /-- 0x8E STX absolute (R135). -/
  | stxAbs (addr : Addr)
  /-- 0x8F SAX absolute (R265), stable illegal. -/
  | saxAbs (addr : Addr)
  /-- 0x90 BCC relative (R225). -/
  | bcc (off : Byte)
  /-- 0x91 STA (indirect),Y (R134). -/
  | staIndY (zp : Byte)
  /-- 0x93, 0x9F SHA, unmapped (R106). -/
  | sha (op : ShaOpcode)
  /-- 0x94 STY zero page,X (R136). -/
  | styZpX (zp : Byte)
  /-- 0x95 STA zero page,X (R134). -/
  | staZpX (zp : Byte)
  /-- 0x96 STX zero page,Y (R135). -/
  | stxZpY (zp : Byte)
  /-- 0x97 SAX zero page,Y (R265), stable illegal. -/
  | saxZpY (zp : Byte)
  /-- 0x98 TYA implied (R153). -/
  | tya
  /-- 0x99 STA absolute,Y (R134). -/
  | staAbsY (addr : Addr)
  /-- 0x9A TXS implied (R155). -/
  | txs
  /-- 0x9B TAS, unmapped (R106). -/
  | tas9B
  /-- 0x9C SHY, unmapped (R106). -/
  | shy9C
  /-- 0x9D STA absolute,X (R134). -/
  | staAbsX (addr : Addr)
  /-- 0x9E SHX, unmapped (R106). -/
  | shx9E
  /-- 0xA0 LDY immediate (R133). -/
  | ldyImm (v : Byte)
  /-- 0xA1 LDA (indirect,X) (R131). -/
  | ldaIndX (zp : Byte)
  /-- 0xA2 LDX immediate (R132). -/
  | ldxImm (v : Byte)
  /-- 0xA3 LAX (indirect,X) (R266), stable illegal. -/
  | laxIndX (zp : Byte)
  /-- 0xA4 LDY zero page (R133). -/
  | ldyZp (zp : Byte)
  /-- 0xA5 LDA zero page (R131). -/
  | ldaZp (zp : Byte)
  /-- 0xA6 LDX zero page (R132). -/
  | ldxZp (zp : Byte)
  /-- 0xA7 LAX zero page (R266), stable illegal. -/
  | laxZp (zp : Byte)
  /-- 0xA8 TAY implied (R151). -/
  | tay
  /-- 0xA9 LDA immediate (R131). -/
  | ldaImm (v : Byte)
  /-- 0xAA TAX implied (R150). -/
  | tax
  /-- 0xAB LXA, unmapped (R106). -/
  | lxaAB
  /-- 0xAC LDY absolute (R133). -/
  | ldyAbs (addr : Addr)
  /-- 0xAD LDA absolute (R131). -/
  | ldaAbs (addr : Addr)
  /-- 0xAE LDX absolute (R132). -/
  | ldxAbs (addr : Addr)
  /-- 0xAF LAX absolute (R266), stable illegal. -/
  | laxAbs (addr : Addr)
  /-- 0xB0 BCS relative (R226). -/
  | bcs (off : Byte)
  /-- 0xB1 LDA (indirect),Y (R131). -/
  | ldaIndY (zp : Byte)
  /-- 0xB3 LAX (indirect),Y (R266), stable illegal. -/
  | laxIndY (zp : Byte)
  /-- 0xB4 LDY zero page,X (R133). -/
  | ldyZpX (zp : Byte)
  /-- 0xB5 LDA zero page,X (R131). -/
  | ldaZpX (zp : Byte)
  /-- 0xB6 LDX zero page,Y (R132). -/
  | ldxZpY (zp : Byte)
  /-- 0xB7 LAX zero page,Y (R266), stable illegal. -/
  | laxZpY (zp : Byte)
  /-- 0xB8 CLV implied (R239). -/
  | clv
  /-- 0xB9 LDA absolute,Y (R131). -/
  | ldaAbsY (addr : Addr)
  /-- 0xBA TSX implied (R154). -/
  | tsx
  /-- 0xBB LAS, unmapped (R106). -/
  | lasBB
  /-- 0xBC LDY absolute,X (R133). -/
  | ldyAbsX (addr : Addr)
  /-- 0xBD LDA absolute,X (R131). -/
  | ldaAbsX (addr : Addr)
  /-- 0xBE LDX absolute,Y (R132). -/
  | ldxAbsY (addr : Addr)
  /-- 0xBF LAX absolute,Y (R266), stable illegal. -/
  | laxAbsY (addr : Addr)
  /-- 0xC0 CPY immediate (R180). -/
  | cpyImm (v : Byte)
  /-- 0xC1 CMP (indirect,X) (R178). -/
  | cmpIndX (zp : Byte)
  /-- 0xC2 NOP immediate (R274), stable illegal. -/
  | nopImmC2 (v : Byte)
  /-- 0xC3 DCP (indirect,X) (R267), stable illegal. -/
  | dcpIndX (zp : Byte)
  /-- 0xC4 CPY zero page (R180). -/
  | cpyZp (zp : Byte)
  /-- 0xC5 CMP zero page (R178). -/
  | cmpZp (zp : Byte)
  /-- 0xC6 DEC zero page (R184). -/
  | decZp (zp : Byte)
  /-- 0xC7 DCP zero page (R267), stable illegal. -/
  | dcpZp (zp : Byte)
  /-- 0xC8 INY implied (R183). -/
  | iny
  /-- 0xC9 CMP immediate (R178). -/
  | cmpImm (v : Byte)
  /-- 0xCA DEX implied (R185). -/
  | dex
  /-- 0xCB SBX immediate (R272), stable illegal. -/
  | sbxImm (v : Byte)
  /-- 0xCC CPY absolute (R180). -/
  | cpyAbs (addr : Addr)
  /-- 0xCD CMP absolute (R178). -/
  | cmpAbs (addr : Addr)
  /-- 0xCE DEC absolute (R184). -/
  | decAbs (addr : Addr)
  /-- 0xCF DCP absolute (R267), stable illegal. -/
  | dcpAbs (addr : Addr)
  /-- 0xD0 BNE relative (R227). -/
  | bne (off : Byte)
  /-- 0xD1 CMP (indirect),Y (R178). -/
  | cmpIndY (zp : Byte)
  /-- 0xD3 DCP (indirect),Y (R267), stable illegal. -/
  | dcpIndY (zp : Byte)
  /-- 0xD4 NOP zero page,X (R274), stable illegal. -/
  | nopZpXD4 (zp : Byte)
  /-- 0xD5 CMP zero page,X (R178). -/
  | cmpZpX (zp : Byte)
  /-- 0xD6 DEC zero page,X (R184). -/
  | decZpX (zp : Byte)
  /-- 0xD7 DCP zero page,X (R267), stable illegal. -/
  | dcpZpX (zp : Byte)
  /-- 0xD8 CLD implied (R240). -/
  | cld
  /-- 0xD9 CMP absolute,Y (R178). -/
  | cmpAbsY (addr : Addr)
  /-- 0xDA NOP implied (R274), stable illegal. -/
  | nopImpDA
  /-- 0xDB DCP absolute,Y (R267), stable illegal. -/
  | dcpAbsY (addr : Addr)
  /-- 0xDC NOP absolute,X (R274), stable illegal. -/
  | nopAbsXDC (addr : Addr)
  /-- 0xDD CMP absolute,X (R178). -/
  | cmpAbsX (addr : Addr)
  /-- 0xDE DEC absolute,X (R184). -/
  | decAbsX (addr : Addr)
  /-- 0xDF DCP absolute,X (R267), stable illegal. -/
  | dcpAbsX (addr : Addr)
  /-- 0xE0 CPX immediate (R179). -/
  | cpxImm (v : Byte)
  /-- 0xE1 SBC (indirect,X) (R176). -/
  | sbcIndX (zp : Byte)
  /-- 0xE2 NOP immediate (R274), stable illegal. -/
  | nopImmE2 (v : Byte)
  /-- 0xE3 ISC (indirect,X) (R268), stable illegal. -/
  | iscIndX (zp : Byte)
  /-- 0xE4 CPX zero page (R179). -/
  | cpxZp (zp : Byte)
  /-- 0xE5 SBC zero page (R176). -/
  | sbcZp (zp : Byte)
  /-- 0xE6 INC zero page (R181). -/
  | incZp (zp : Byte)
  /-- 0xE7 ISC zero page (R268), stable illegal. -/
  | iscZp (zp : Byte)
  /-- 0xE8 INX implied (R182). -/
  | inx
  /-- 0xE9 SBC immediate (R176). -/
  | sbcImm (v : Byte)
  /-- 0xEA NOP implied (R234). -/
  | nop
  /-- 0xEB SBC immediate (R273), stable illegal. -/
  | usbcImm (v : Byte)
  /-- 0xEC CPX absolute (R179). -/
  | cpxAbs (addr : Addr)
  /-- 0xED SBC absolute (R176). -/
  | sbcAbs (addr : Addr)
  /-- 0xEE INC absolute (R181). -/
  | incAbs (addr : Addr)
  /-- 0xEF ISC absolute (R268), stable illegal. -/
  | iscAbs (addr : Addr)
  /-- 0xF0 BEQ relative (R228). -/
  | beq (off : Byte)
  /-- 0xF1 SBC (indirect),Y (R176). -/
  | sbcIndY (zp : Byte)
  /-- 0xF3 ISC (indirect),Y (R268), stable illegal. -/
  | iscIndY (zp : Byte)
  /-- 0xF4 NOP zero page,X (R274), stable illegal. -/
  | nopZpXF4 (zp : Byte)
  /-- 0xF5 SBC zero page,X (R176). -/
  | sbcZpX (zp : Byte)
  /-- 0xF6 INC zero page,X (R181). -/
  | incZpX (zp : Byte)
  /-- 0xF7 ISC zero page,X (R268), stable illegal. -/
  | iscZpX (zp : Byte)
  /-- 0xF8 SED implied (R241). -/
  | sed
  /-- 0xF9 SBC absolute,Y (R176). -/
  | sbcAbsY (addr : Addr)
  /-- 0xFA NOP implied (R274), stable illegal. -/
  | nopImpFA
  /-- 0xFB ISC absolute,Y (R268), stable illegal. -/
  | iscAbsY (addr : Addr)
  /-- 0xFC NOP absolute,X (R274), stable illegal. -/
  | nopAbsXFC (addr : Addr)
  /-- 0xFD SBC absolute,X (R176). -/
  | sbcAbsX (addr : Addr)
  /-- 0xFE INC absolute,X (R181). -/
  | incAbsX (addr : Addr)
  /-- 0xFF ISC absolute,X (R268), stable illegal. -/
  | iscAbsX (addr : Addr)
  deriving DecidableEq, Repr

end Sys2Proof
end

