-- ==== Sys2Proof/Machine/Descriptor.lean ====
section
/-! DEFINITION. The opcode table as data (30_encoding.md R102, spec/opcode_table.json), the length and operand bytes of
each mode (R81, R82), and the byte order (20_memory.md R56). -/

namespace Sys2Proof

/-- The concatenation `hi:lo` (R8, R56). -/
def wordOfBytes (hi lo : Byte) : Addr := hi ++ lo

/-- Bits [7:0] of an address, the byte at the lower address (R56). -/
def lowByte (w : Addr) : Byte := w.extractLsb' 0 8

/-- Bits [15:8] of an address: its page (R11, R56). -/
def highByte (w : Addr) : Byte := w.extractLsb' 8 8

/-- The operand bytes of a mode in the order they are stored (R82, R56). -/
def AddrMode.operandBytes : AddrMode → List Byte
  | .implied | .accumulator => []
  | .immediate b | .zeroPage b | .zeroPageX b | .zeroPageY b | .indirectX b | .indirectY b | .relative b => [b]
  | .absolute w | .absoluteX w | .absoluteY w | .indirect w => [lowByte w, highByte w]

/-- The length in bytes of an instruction of a mode, its opcode byte counted (R81). -/
def AddrMode.length : AddrMode → Nat
  | .implied | .accumulator => 1
  | .immediate _ | .zeroPage _ | .zeroPageX _ | .zeroPageY _ | .indirectX _ | .indirectY _ | .relative _ => 2
  | .absolute _ | .absoluteX _ | .absoluteY _ | .indirect _ => 3

/-- The opcode byte of a processor-halt opcode (R105). -/
def JamOpcode.byte : JamOpcode → Byte
  | .x02 => 0x02
  | .x12 => 0x12
  | .x22 => 0x22
  | .x32 => 0x32
  | .x42 => 0x42
  | .x52 => 0x52
  | .x62 => 0x62
  | .x72 => 0x72
  | .x92 => 0x92
  | .xB2 => 0xB2
  | .xD2 => 0xD2
  | .xF2 => 0xF2

/-- The opcode byte of an SHA opcode (R106). -/
def ShaOpcode.byte : ShaOpcode → Byte
  | .x93 => 0x93
  | .x9F => 0x9F

/-- R102's per-opcode table, row by row: opcode, mnemonic, mode, base cycles, page-cross penalty, class, set. -/
def Instr.descriptor : Instr → Descriptor
  | .brk => ⟨0x00, .brk, .implied, 7, false, .other, .legal⟩
  | .oraIndX zp => ⟨0x01, .ora, .indirectX zp, 6, false, .read, .legal⟩
  | .jam op => ⟨op.byte, .jam, .implied, 0, false, .other, .unmapped⟩
  | .sloIndX zp => ⟨0x03, .slo, .indirectX zp, 8, false, .rmw, .illegal⟩
  | .nopZp04 zp => ⟨0x04, .nop, .zeroPage zp, 3, false, .read, .illegal⟩
  | .oraZp zp => ⟨0x05, .ora, .zeroPage zp, 3, false, .read, .legal⟩
  | .aslZp zp => ⟨0x06, .asl, .zeroPage zp, 5, false, .rmw, .legal⟩
  | .sloZp zp => ⟨0x07, .slo, .zeroPage zp, 5, false, .rmw, .illegal⟩
  | .php => ⟨0x08, .php, .implied, 3, false, .other, .legal⟩
  | .oraImm v => ⟨0x09, .ora, .immediate v, 2, false, .read, .legal⟩
  | .aslAcc => ⟨0x0A, .asl, .accumulator, 2, false, .rmw, .legal⟩
  | .ancImm0B v => ⟨0x0B, .anc, .immediate v, 2, false, .read, .illegal⟩
  | .nopAbs0C addr => ⟨0x0C, .nop, .absolute addr, 4, false, .read, .illegal⟩
  | .oraAbs addr => ⟨0x0D, .ora, .absolute addr, 4, false, .read, .legal⟩
  | .aslAbs addr => ⟨0x0E, .asl, .absolute addr, 6, false, .rmw, .legal⟩
  | .sloAbs addr => ⟨0x0F, .slo, .absolute addr, 6, false, .rmw, .illegal⟩
  | .bpl off => ⟨0x10, .bpl, .relative off, 2, false, .branch, .legal⟩
  | .oraIndY zp => ⟨0x11, .ora, .indirectY zp, 5, true, .read, .legal⟩
  | .sloIndY zp => ⟨0x13, .slo, .indirectY zp, 8, false, .rmw, .illegal⟩
  | .nopZpX14 zp => ⟨0x14, .nop, .zeroPageX zp, 4, false, .read, .illegal⟩
  | .oraZpX zp => ⟨0x15, .ora, .zeroPageX zp, 4, false, .read, .legal⟩
  | .aslZpX zp => ⟨0x16, .asl, .zeroPageX zp, 6, false, .rmw, .legal⟩
  | .sloZpX zp => ⟨0x17, .slo, .zeroPageX zp, 6, false, .rmw, .illegal⟩
  | .clc => ⟨0x18, .clc, .implied, 2, false, .other, .legal⟩
  | .oraAbsY addr => ⟨0x19, .ora, .absoluteY addr, 4, true, .read, .legal⟩
  | .nopImp1A => ⟨0x1A, .nop, .implied, 2, false, .other, .illegal⟩
  | .sloAbsY addr => ⟨0x1B, .slo, .absoluteY addr, 7, false, .rmw, .illegal⟩
  | .nopAbsX1C addr => ⟨0x1C, .nop, .absoluteX addr, 4, true, .read, .illegal⟩
  | .oraAbsX addr => ⟨0x1D, .ora, .absoluteX addr, 4, true, .read, .legal⟩
  | .aslAbsX addr => ⟨0x1E, .asl, .absoluteX addr, 7, false, .rmw, .legal⟩
  | .sloAbsX addr => ⟨0x1F, .slo, .absoluteX addr, 7, false, .rmw, .illegal⟩
  | .jsrAbs addr => ⟨0x20, .jsr, .absolute addr, 6, false, .other, .legal⟩
  | .andIndX zp => ⟨0x21, .and, .indirectX zp, 6, false, .read, .legal⟩
  | .rlaIndX zp => ⟨0x23, .rla, .indirectX zp, 8, false, .rmw, .illegal⟩
  | .bitZp zp => ⟨0x24, .bit, .zeroPage zp, 3, false, .read, .legal⟩
  | .andZp zp => ⟨0x25, .and, .zeroPage zp, 3, false, .read, .legal⟩
  | .rolZp zp => ⟨0x26, .rol, .zeroPage zp, 5, false, .rmw, .legal⟩
  | .rlaZp zp => ⟨0x27, .rla, .zeroPage zp, 5, false, .rmw, .illegal⟩
  | .plp => ⟨0x28, .plp, .implied, 4, false, .other, .legal⟩
  | .andImm v => ⟨0x29, .and, .immediate v, 2, false, .read, .legal⟩
  | .rolAcc => ⟨0x2A, .rol, .accumulator, 2, false, .rmw, .legal⟩
  | .ancImm2B v => ⟨0x2B, .anc, .immediate v, 2, false, .read, .illegal⟩
  | .bitAbs addr => ⟨0x2C, .bit, .absolute addr, 4, false, .read, .legal⟩
  | .andAbs addr => ⟨0x2D, .and, .absolute addr, 4, false, .read, .legal⟩
  | .rolAbs addr => ⟨0x2E, .rol, .absolute addr, 6, false, .rmw, .legal⟩
  | .rlaAbs addr => ⟨0x2F, .rla, .absolute addr, 6, false, .rmw, .illegal⟩
  | .bmi off => ⟨0x30, .bmi, .relative off, 2, false, .branch, .legal⟩
  | .andIndY zp => ⟨0x31, .and, .indirectY zp, 5, true, .read, .legal⟩
  | .rlaIndY zp => ⟨0x33, .rla, .indirectY zp, 8, false, .rmw, .illegal⟩
  | .nopZpX34 zp => ⟨0x34, .nop, .zeroPageX zp, 4, false, .read, .illegal⟩
  | .andZpX zp => ⟨0x35, .and, .zeroPageX zp, 4, false, .read, .legal⟩
  | .rolZpX zp => ⟨0x36, .rol, .zeroPageX zp, 6, false, .rmw, .legal⟩
  | .rlaZpX zp => ⟨0x37, .rla, .zeroPageX zp, 6, false, .rmw, .illegal⟩
  | .sec => ⟨0x38, .sec, .implied, 2, false, .other, .legal⟩
  | .andAbsY addr => ⟨0x39, .and, .absoluteY addr, 4, true, .read, .legal⟩
  | .nopImp3A => ⟨0x3A, .nop, .implied, 2, false, .other, .illegal⟩
  | .rlaAbsY addr => ⟨0x3B, .rla, .absoluteY addr, 7, false, .rmw, .illegal⟩
  | .nopAbsX3C addr => ⟨0x3C, .nop, .absoluteX addr, 4, true, .read, .illegal⟩
  | .andAbsX addr => ⟨0x3D, .and, .absoluteX addr, 4, true, .read, .legal⟩
  | .rolAbsX addr => ⟨0x3E, .rol, .absoluteX addr, 7, false, .rmw, .legal⟩
  | .rlaAbsX addr => ⟨0x3F, .rla, .absoluteX addr, 7, false, .rmw, .illegal⟩
  | .rti => ⟨0x40, .rti, .implied, 6, false, .other, .legal⟩
  | .eorIndX zp => ⟨0x41, .eor, .indirectX zp, 6, false, .read, .legal⟩
  | .sreIndX zp => ⟨0x43, .sre, .indirectX zp, 8, false, .rmw, .illegal⟩
  | .nopZp44 zp => ⟨0x44, .nop, .zeroPage zp, 3, false, .read, .illegal⟩
  | .eorZp zp => ⟨0x45, .eor, .zeroPage zp, 3, false, .read, .legal⟩
  | .lsrZp zp => ⟨0x46, .lsr, .zeroPage zp, 5, false, .rmw, .legal⟩
  | .sreZp zp => ⟨0x47, .sre, .zeroPage zp, 5, false, .rmw, .illegal⟩
  | .pha => ⟨0x48, .pha, .implied, 3, false, .other, .legal⟩
  | .eorImm v => ⟨0x49, .eor, .immediate v, 2, false, .read, .legal⟩
  | .lsrAcc => ⟨0x4A, .lsr, .accumulator, 2, false, .rmw, .legal⟩
  | .alrImm v => ⟨0x4B, .alr, .immediate v, 2, false, .read, .illegal⟩
  | .jmpAbs addr => ⟨0x4C, .jmp, .absolute addr, 3, false, .other, .legal⟩
  | .eorAbs addr => ⟨0x4D, .eor, .absolute addr, 4, false, .read, .legal⟩
  | .lsrAbs addr => ⟨0x4E, .lsr, .absolute addr, 6, false, .rmw, .legal⟩
  | .sreAbs addr => ⟨0x4F, .sre, .absolute addr, 6, false, .rmw, .illegal⟩
  | .bvc off => ⟨0x50, .bvc, .relative off, 2, false, .branch, .legal⟩
  | .eorIndY zp => ⟨0x51, .eor, .indirectY zp, 5, true, .read, .legal⟩
  | .sreIndY zp => ⟨0x53, .sre, .indirectY zp, 8, false, .rmw, .illegal⟩
  | .nopZpX54 zp => ⟨0x54, .nop, .zeroPageX zp, 4, false, .read, .illegal⟩
  | .eorZpX zp => ⟨0x55, .eor, .zeroPageX zp, 4, false, .read, .legal⟩
  | .lsrZpX zp => ⟨0x56, .lsr, .zeroPageX zp, 6, false, .rmw, .legal⟩
  | .sreZpX zp => ⟨0x57, .sre, .zeroPageX zp, 6, false, .rmw, .illegal⟩
  | .cli => ⟨0x58, .cli, .implied, 2, false, .other, .legal⟩
  | .eorAbsY addr => ⟨0x59, .eor, .absoluteY addr, 4, true, .read, .legal⟩
  | .nopImp5A => ⟨0x5A, .nop, .implied, 2, false, .other, .illegal⟩
  | .sreAbsY addr => ⟨0x5B, .sre, .absoluteY addr, 7, false, .rmw, .illegal⟩
  | .nopAbsX5C addr => ⟨0x5C, .nop, .absoluteX addr, 4, true, .read, .illegal⟩
  | .eorAbsX addr => ⟨0x5D, .eor, .absoluteX addr, 4, true, .read, .legal⟩
  | .lsrAbsX addr => ⟨0x5E, .lsr, .absoluteX addr, 7, false, .rmw, .legal⟩
  | .sreAbsX addr => ⟨0x5F, .sre, .absoluteX addr, 7, false, .rmw, .illegal⟩
  | .rts => ⟨0x60, .rts, .implied, 6, false, .other, .legal⟩
  | .adcIndX zp => ⟨0x61, .adc, .indirectX zp, 6, false, .read, .legal⟩
  | .rraIndX zp => ⟨0x63, .rra, .indirectX zp, 8, false, .rmw, .illegal⟩
  | .nopZp64 zp => ⟨0x64, .nop, .zeroPage zp, 3, false, .read, .illegal⟩
  | .adcZp zp => ⟨0x65, .adc, .zeroPage zp, 3, false, .read, .legal⟩
  | .rorZp zp => ⟨0x66, .ror, .zeroPage zp, 5, false, .rmw, .legal⟩
  | .rraZp zp => ⟨0x67, .rra, .zeroPage zp, 5, false, .rmw, .illegal⟩
  | .pla => ⟨0x68, .pla, .implied, 4, false, .other, .legal⟩
  | .adcImm v => ⟨0x69, .adc, .immediate v, 2, false, .read, .legal⟩
  | .rorAcc => ⟨0x6A, .ror, .accumulator, 2, false, .rmw, .legal⟩
  | .arrImm v => ⟨0x6B, .arr, .immediate v, 2, false, .read, .illegal⟩
  | .jmpInd ptr => ⟨0x6C, .jmp, .indirect ptr, 5, false, .other, .legal⟩
  | .adcAbs addr => ⟨0x6D, .adc, .absolute addr, 4, false, .read, .legal⟩
  | .rorAbs addr => ⟨0x6E, .ror, .absolute addr, 6, false, .rmw, .legal⟩
  | .rraAbs addr => ⟨0x6F, .rra, .absolute addr, 6, false, .rmw, .illegal⟩
  | .bvs off => ⟨0x70, .bvs, .relative off, 2, false, .branch, .legal⟩
  | .adcIndY zp => ⟨0x71, .adc, .indirectY zp, 5, true, .read, .legal⟩
  | .rraIndY zp => ⟨0x73, .rra, .indirectY zp, 8, false, .rmw, .illegal⟩
  | .nopZpX74 zp => ⟨0x74, .nop, .zeroPageX zp, 4, false, .read, .illegal⟩
  | .adcZpX zp => ⟨0x75, .adc, .zeroPageX zp, 4, false, .read, .legal⟩
  | .rorZpX zp => ⟨0x76, .ror, .zeroPageX zp, 6, false, .rmw, .legal⟩
  | .rraZpX zp => ⟨0x77, .rra, .zeroPageX zp, 6, false, .rmw, .illegal⟩
  | .sei => ⟨0x78, .sei, .implied, 2, false, .other, .legal⟩
  | .adcAbsY addr => ⟨0x79, .adc, .absoluteY addr, 4, true, .read, .legal⟩
  | .nopImp7A => ⟨0x7A, .nop, .implied, 2, false, .other, .illegal⟩
  | .rraAbsY addr => ⟨0x7B, .rra, .absoluteY addr, 7, false, .rmw, .illegal⟩
  | .nopAbsX7C addr => ⟨0x7C, .nop, .absoluteX addr, 4, true, .read, .illegal⟩
  | .adcAbsX addr => ⟨0x7D, .adc, .absoluteX addr, 4, true, .read, .legal⟩
  | .rorAbsX addr => ⟨0x7E, .ror, .absoluteX addr, 7, false, .rmw, .legal⟩
  | .rraAbsX addr => ⟨0x7F, .rra, .absoluteX addr, 7, false, .rmw, .illegal⟩
  | .nopImm80 v => ⟨0x80, .nop, .immediate v, 2, false, .read, .illegal⟩
  | .staIndX zp => ⟨0x81, .sta, .indirectX zp, 6, false, .write, .legal⟩
  | .nopImm82 v => ⟨0x82, .nop, .immediate v, 2, false, .read, .illegal⟩
  | .saxIndX zp => ⟨0x83, .sax, .indirectX zp, 6, false, .write, .illegal⟩
  | .styZp zp => ⟨0x84, .sty, .zeroPage zp, 3, false, .write, .legal⟩
  | .staZp zp => ⟨0x85, .sta, .zeroPage zp, 3, false, .write, .legal⟩
  | .stxZp zp => ⟨0x86, .stx, .zeroPage zp, 3, false, .write, .legal⟩
  | .saxZp zp => ⟨0x87, .sax, .zeroPage zp, 3, false, .write, .illegal⟩
  | .dey => ⟨0x88, .dey, .implied, 2, false, .other, .legal⟩
  | .nopImm89 v => ⟨0x89, .nop, .immediate v, 2, false, .read, .illegal⟩
  | .txa => ⟨0x8A, .txa, .implied, 2, false, .other, .legal⟩
  | .ane8B => ⟨0x8B, .ane, .implied, 0, false, .other, .unmapped⟩
  | .styAbs addr => ⟨0x8C, .sty, .absolute addr, 4, false, .write, .legal⟩
  | .staAbs addr => ⟨0x8D, .sta, .absolute addr, 4, false, .write, .legal⟩
  | .stxAbs addr => ⟨0x8E, .stx, .absolute addr, 4, false, .write, .legal⟩
  | .saxAbs addr => ⟨0x8F, .sax, .absolute addr, 4, false, .write, .illegal⟩
  | .bcc off => ⟨0x90, .bcc, .relative off, 2, false, .branch, .legal⟩
  | .staIndY zp => ⟨0x91, .sta, .indirectY zp, 6, false, .write, .legal⟩
  | .sha op => ⟨op.byte, .sha, .implied, 0, false, .other, .unmapped⟩
  | .styZpX zp => ⟨0x94, .sty, .zeroPageX zp, 4, false, .write, .legal⟩
  | .staZpX zp => ⟨0x95, .sta, .zeroPageX zp, 4, false, .write, .legal⟩
  | .stxZpY zp => ⟨0x96, .stx, .zeroPageY zp, 4, false, .write, .legal⟩
  | .saxZpY zp => ⟨0x97, .sax, .zeroPageY zp, 4, false, .write, .illegal⟩
  | .tya => ⟨0x98, .tya, .implied, 2, false, .other, .legal⟩
  | .staAbsY addr => ⟨0x99, .sta, .absoluteY addr, 5, false, .write, .legal⟩
  | .txs => ⟨0x9A, .txs, .implied, 2, false, .other, .legal⟩
  | .tas9B => ⟨0x9B, .tas, .implied, 0, false, .other, .unmapped⟩
  | .shy9C => ⟨0x9C, .shy, .implied, 0, false, .other, .unmapped⟩
  | .staAbsX addr => ⟨0x9D, .sta, .absoluteX addr, 5, false, .write, .legal⟩
  | .shx9E => ⟨0x9E, .shx, .implied, 0, false, .other, .unmapped⟩
  | .ldyImm v => ⟨0xA0, .ldy, .immediate v, 2, false, .read, .legal⟩
  | .ldaIndX zp => ⟨0xA1, .lda, .indirectX zp, 6, false, .read, .legal⟩
  | .ldxImm v => ⟨0xA2, .ldx, .immediate v, 2, false, .read, .legal⟩
  | .laxIndX zp => ⟨0xA3, .lax, .indirectX zp, 6, false, .read, .illegal⟩
  | .ldyZp zp => ⟨0xA4, .ldy, .zeroPage zp, 3, false, .read, .legal⟩
  | .ldaZp zp => ⟨0xA5, .lda, .zeroPage zp, 3, false, .read, .legal⟩
  | .ldxZp zp => ⟨0xA6, .ldx, .zeroPage zp, 3, false, .read, .legal⟩
  | .laxZp zp => ⟨0xA7, .lax, .zeroPage zp, 3, false, .read, .illegal⟩
  | .tay => ⟨0xA8, .tay, .implied, 2, false, .other, .legal⟩
  | .ldaImm v => ⟨0xA9, .lda, .immediate v, 2, false, .read, .legal⟩
  | .tax => ⟨0xAA, .tax, .implied, 2, false, .other, .legal⟩
  | .lxaAB => ⟨0xAB, .lxa, .implied, 0, false, .other, .unmapped⟩
  | .ldyAbs addr => ⟨0xAC, .ldy, .absolute addr, 4, false, .read, .legal⟩
  | .ldaAbs addr => ⟨0xAD, .lda, .absolute addr, 4, false, .read, .legal⟩
  | .ldxAbs addr => ⟨0xAE, .ldx, .absolute addr, 4, false, .read, .legal⟩
  | .laxAbs addr => ⟨0xAF, .lax, .absolute addr, 4, false, .read, .illegal⟩
  | .bcs off => ⟨0xB0, .bcs, .relative off, 2, false, .branch, .legal⟩
  | .ldaIndY zp => ⟨0xB1, .lda, .indirectY zp, 5, true, .read, .legal⟩
  | .laxIndY zp => ⟨0xB3, .lax, .indirectY zp, 5, true, .read, .illegal⟩
  | .ldyZpX zp => ⟨0xB4, .ldy, .zeroPageX zp, 4, false, .read, .legal⟩
  | .ldaZpX zp => ⟨0xB5, .lda, .zeroPageX zp, 4, false, .read, .legal⟩
  | .ldxZpY zp => ⟨0xB6, .ldx, .zeroPageY zp, 4, false, .read, .legal⟩
  | .laxZpY zp => ⟨0xB7, .lax, .zeroPageY zp, 4, false, .read, .illegal⟩
  | .clv => ⟨0xB8, .clv, .implied, 2, false, .other, .legal⟩
  | .ldaAbsY addr => ⟨0xB9, .lda, .absoluteY addr, 4, true, .read, .legal⟩
  | .tsx => ⟨0xBA, .tsx, .implied, 2, false, .other, .legal⟩
  | .lasBB => ⟨0xBB, .las, .implied, 0, false, .other, .unmapped⟩
  | .ldyAbsX addr => ⟨0xBC, .ldy, .absoluteX addr, 4, true, .read, .legal⟩
  | .ldaAbsX addr => ⟨0xBD, .lda, .absoluteX addr, 4, true, .read, .legal⟩
  | .ldxAbsY addr => ⟨0xBE, .ldx, .absoluteY addr, 4, true, .read, .legal⟩
  | .laxAbsY addr => ⟨0xBF, .lax, .absoluteY addr, 4, true, .read, .illegal⟩
  | .cpyImm v => ⟨0xC0, .cpy, .immediate v, 2, false, .read, .legal⟩
  | .cmpIndX zp => ⟨0xC1, .cmp, .indirectX zp, 6, false, .read, .legal⟩
  | .nopImmC2 v => ⟨0xC2, .nop, .immediate v, 2, false, .read, .illegal⟩
  | .dcpIndX zp => ⟨0xC3, .dcp, .indirectX zp, 8, false, .rmw, .illegal⟩
  | .cpyZp zp => ⟨0xC4, .cpy, .zeroPage zp, 3, false, .read, .legal⟩
  | .cmpZp zp => ⟨0xC5, .cmp, .zeroPage zp, 3, false, .read, .legal⟩
  | .decZp zp => ⟨0xC6, .dec, .zeroPage zp, 5, false, .rmw, .legal⟩
  | .dcpZp zp => ⟨0xC7, .dcp, .zeroPage zp, 5, false, .rmw, .illegal⟩
  | .iny => ⟨0xC8, .iny, .implied, 2, false, .other, .legal⟩
  | .cmpImm v => ⟨0xC9, .cmp, .immediate v, 2, false, .read, .legal⟩
  | .dex => ⟨0xCA, .dex, .implied, 2, false, .other, .legal⟩
  | .sbxImm v => ⟨0xCB, .sbx, .immediate v, 2, false, .read, .illegal⟩
  | .cpyAbs addr => ⟨0xCC, .cpy, .absolute addr, 4, false, .read, .legal⟩
  | .cmpAbs addr => ⟨0xCD, .cmp, .absolute addr, 4, false, .read, .legal⟩
  | .decAbs addr => ⟨0xCE, .dec, .absolute addr, 6, false, .rmw, .legal⟩
  | .dcpAbs addr => ⟨0xCF, .dcp, .absolute addr, 6, false, .rmw, .illegal⟩
  | .bne off => ⟨0xD0, .bne, .relative off, 2, false, .branch, .legal⟩
  | .cmpIndY zp => ⟨0xD1, .cmp, .indirectY zp, 5, true, .read, .legal⟩
  | .dcpIndY zp => ⟨0xD3, .dcp, .indirectY zp, 8, false, .rmw, .illegal⟩
  | .nopZpXD4 zp => ⟨0xD4, .nop, .zeroPageX zp, 4, false, .read, .illegal⟩
  | .cmpZpX zp => ⟨0xD5, .cmp, .zeroPageX zp, 4, false, .read, .legal⟩
  | .decZpX zp => ⟨0xD6, .dec, .zeroPageX zp, 6, false, .rmw, .legal⟩
  | .dcpZpX zp => ⟨0xD7, .dcp, .zeroPageX zp, 6, false, .rmw, .illegal⟩
  | .cld => ⟨0xD8, .cld, .implied, 2, false, .other, .legal⟩
  | .cmpAbsY addr => ⟨0xD9, .cmp, .absoluteY addr, 4, true, .read, .legal⟩
  | .nopImpDA => ⟨0xDA, .nop, .implied, 2, false, .other, .illegal⟩
  | .dcpAbsY addr => ⟨0xDB, .dcp, .absoluteY addr, 7, false, .rmw, .illegal⟩
  | .nopAbsXDC addr => ⟨0xDC, .nop, .absoluteX addr, 4, true, .read, .illegal⟩
  | .cmpAbsX addr => ⟨0xDD, .cmp, .absoluteX addr, 4, true, .read, .legal⟩
  | .decAbsX addr => ⟨0xDE, .dec, .absoluteX addr, 7, false, .rmw, .legal⟩
  | .dcpAbsX addr => ⟨0xDF, .dcp, .absoluteX addr, 7, false, .rmw, .illegal⟩
  | .cpxImm v => ⟨0xE0, .cpx, .immediate v, 2, false, .read, .legal⟩
  | .sbcIndX zp => ⟨0xE1, .sbc, .indirectX zp, 6, false, .read, .legal⟩
  | .nopImmE2 v => ⟨0xE2, .nop, .immediate v, 2, false, .read, .illegal⟩
  | .iscIndX zp => ⟨0xE3, .isc, .indirectX zp, 8, false, .rmw, .illegal⟩
  | .cpxZp zp => ⟨0xE4, .cpx, .zeroPage zp, 3, false, .read, .legal⟩
  | .sbcZp zp => ⟨0xE5, .sbc, .zeroPage zp, 3, false, .read, .legal⟩
  | .incZp zp => ⟨0xE6, .inc, .zeroPage zp, 5, false, .rmw, .legal⟩
  | .iscZp zp => ⟨0xE7, .isc, .zeroPage zp, 5, false, .rmw, .illegal⟩
  | .inx => ⟨0xE8, .inx, .implied, 2, false, .other, .legal⟩
  | .sbcImm v => ⟨0xE9, .sbc, .immediate v, 2, false, .read, .legal⟩
  | .nop => ⟨0xEA, .nop, .implied, 2, false, .other, .legal⟩
  | .usbcImm v => ⟨0xEB, .sbc, .immediate v, 2, false, .read, .illegal⟩
  | .cpxAbs addr => ⟨0xEC, .cpx, .absolute addr, 4, false, .read, .legal⟩
  | .sbcAbs addr => ⟨0xED, .sbc, .absolute addr, 4, false, .read, .legal⟩
  | .incAbs addr => ⟨0xEE, .inc, .absolute addr, 6, false, .rmw, .legal⟩
  | .iscAbs addr => ⟨0xEF, .isc, .absolute addr, 6, false, .rmw, .illegal⟩
  | .beq off => ⟨0xF0, .beq, .relative off, 2, false, .branch, .legal⟩
  | .sbcIndY zp => ⟨0xF1, .sbc, .indirectY zp, 5, true, .read, .legal⟩
  | .iscIndY zp => ⟨0xF3, .isc, .indirectY zp, 8, false, .rmw, .illegal⟩
  | .nopZpXF4 zp => ⟨0xF4, .nop, .zeroPageX zp, 4, false, .read, .illegal⟩
  | .sbcZpX zp => ⟨0xF5, .sbc, .zeroPageX zp, 4, false, .read, .legal⟩
  | .incZpX zp => ⟨0xF6, .inc, .zeroPageX zp, 6, false, .rmw, .legal⟩
  | .iscZpX zp => ⟨0xF7, .isc, .zeroPageX zp, 6, false, .rmw, .illegal⟩
  | .sed => ⟨0xF8, .sed, .implied, 2, false, .other, .legal⟩
  | .sbcAbsY addr => ⟨0xF9, .sbc, .absoluteY addr, 4, true, .read, .legal⟩
  | .nopImpFA => ⟨0xFA, .nop, .implied, 2, false, .other, .illegal⟩
  | .iscAbsY addr => ⟨0xFB, .isc, .absoluteY addr, 7, false, .rmw, .illegal⟩
  | .nopAbsXFC addr => ⟨0xFC, .nop, .absoluteX addr, 4, true, .read, .illegal⟩
  | .sbcAbsX addr => ⟨0xFD, .sbc, .absoluteX addr, 4, true, .read, .legal⟩
  | .incAbsX addr => ⟨0xFE, .inc, .absoluteX addr, 7, false, .rmw, .legal⟩
  | .iscAbsX addr => ⟨0xFF, .isc, .absoluteX addr, 7, false, .rmw, .illegal⟩

/-- The opcode byte of an instruction (R80). -/
def Instr.opcode (i : Instr) : Byte := i.descriptor.opcode

/-- The mnemonic of an instruction's row. -/
def Instr.mnemonic (i : Instr) : Mnemonic := i.descriptor.mnemonic

/-- The addressing mode of an instruction with its operand bytes. -/
def Instr.mode (i : Instr) : AddrMode := i.descriptor.mode

/-- The length of an instruction in bytes, fixed by its opcode through its mode (R81). -/
def Instr.length (i : Instr) : Nat := i.mode.length

/-- Whether `Decode` gives the opcode a descriptor (R85): always for a legal row, never for an unmapped one, and for an
illegal one when `P_ILLEGAL = Stable` (R104). -/
def Instr.mapped (p : Policy) (i : Instr) : Bool :=
  match i.descriptor.set with
  | .legal => true
  | .illegal => p.illegal == .stable
  | .unmapped => false

end Sys2Proof
end

