-- ==== Sys2Proof/WellFormed.lean ====
section
/-! DEFINITION. Which instruction terms the core executes. Every operand field has exactly the width of the operand byte
or word it stands for (30_encoding.md R82), so no term can carry an operand that does not fit; what is left to check is
that the row has a descriptor (R85). -/

namespace Sys2Proof

/-- The row is not one of the 20 unmapped bytes (R105, R106). -/
def Instr.hasDescriptor (i : Instr) : Bool := i.descriptor.set != .unmapped

/-- A stable illegal row is mapped only under `P_ILLEGAL = Stable` (R104, R260). -/
def Instr.allowedBy (p : Policy) (i : Instr) : Bool := i.descriptor.set != .illegal || p.illegal == .stable

/-- The instruction is one the core executes under the parameters. Encoding and decoding need no such premise: they
agree on every term. -/
def Instr.wellFormed (p : Policy) (i : Instr) : Bool := i.hasDescriptor && i.allowedBy p

end Sys2Proof
end

