-- ==== Sys2Proof/Decode.lean ====
section
/-! DEFINITION. The decoder, total on any bytes, and after it the encoder (30_encoding.md R80 to R82, R85, R102). The
decoder follows R102's grid (row = opcode bits [7:4], column = bits [3:0]); the encoder follows its per-opcode table. -/

namespace Sys2Proof

/-- Row 0x of R102's grid; `b` and `c` are the two bytes after the opcode. -/
def decodeRow0 (col : Nat) (b c : Byte) : Instr :=
  match col with
  | 0 => .brk
  | 1 => .oraIndX b
  | 2 => .jam .x02
  | 3 => .sloIndX b
  | 4 => .nopZp04 b
  | 5 => .oraZp b
  | 6 => .aslZp b
  | 7 => .sloZp b
  | 8 => .php
  | 9 => .oraImm b
  | 10 => .aslAcc
  | 11 => .ancImm0B b
  | 12 => .nopAbs0C (wordOfBytes c b)
  | 13 => .oraAbs (wordOfBytes c b)
  | 14 => .aslAbs (wordOfBytes c b)
  | _ => .sloAbs (wordOfBytes c b)

/-- Row 1x of R102's grid; `b` and `c` are the two bytes after the opcode. -/
def decodeRow1 (col : Nat) (b c : Byte) : Instr :=
  match col with
  | 0 => .bpl b
  | 1 => .oraIndY b
  | 2 => .jam .x12
  | 3 => .sloIndY b
  | 4 => .nopZpX14 b
  | 5 => .oraZpX b
  | 6 => .aslZpX b
  | 7 => .sloZpX b
  | 8 => .clc
  | 9 => .oraAbsY (wordOfBytes c b)
  | 10 => .nopImp1A
  | 11 => .sloAbsY (wordOfBytes c b)
  | 12 => .nopAbsX1C (wordOfBytes c b)
  | 13 => .oraAbsX (wordOfBytes c b)
  | 14 => .aslAbsX (wordOfBytes c b)
  | _ => .sloAbsX (wordOfBytes c b)

/-- Row 2x of R102's grid; `b` and `c` are the two bytes after the opcode. -/
def decodeRow2 (col : Nat) (b c : Byte) : Instr :=
  match col with
  | 0 => .jsrAbs (wordOfBytes c b)
  | 1 => .andIndX b
  | 2 => .jam .x22
  | 3 => .rlaIndX b
  | 4 => .bitZp b
  | 5 => .andZp b
  | 6 => .rolZp b
  | 7 => .rlaZp b
  | 8 => .plp
  | 9 => .andImm b
  | 10 => .rolAcc
  | 11 => .ancImm2B b
  | 12 => .bitAbs (wordOfBytes c b)
  | 13 => .andAbs (wordOfBytes c b)
  | 14 => .rolAbs (wordOfBytes c b)
  | _ => .rlaAbs (wordOfBytes c b)

/-- Row 3x of R102's grid; `b` and `c` are the two bytes after the opcode. -/
def decodeRow3 (col : Nat) (b c : Byte) : Instr :=
  match col with
  | 0 => .bmi b
  | 1 => .andIndY b
  | 2 => .jam .x32
  | 3 => .rlaIndY b
  | 4 => .nopZpX34 b
  | 5 => .andZpX b
  | 6 => .rolZpX b
  | 7 => .rlaZpX b
  | 8 => .sec
  | 9 => .andAbsY (wordOfBytes c b)
  | 10 => .nopImp3A
  | 11 => .rlaAbsY (wordOfBytes c b)
  | 12 => .nopAbsX3C (wordOfBytes c b)
  | 13 => .andAbsX (wordOfBytes c b)
  | 14 => .rolAbsX (wordOfBytes c b)
  | _ => .rlaAbsX (wordOfBytes c b)

/-- Row 4x of R102's grid; `b` and `c` are the two bytes after the opcode. -/
def decodeRow4 (col : Nat) (b c : Byte) : Instr :=
  match col with
  | 0 => .rti
  | 1 => .eorIndX b
  | 2 => .jam .x42
  | 3 => .sreIndX b
  | 4 => .nopZp44 b
  | 5 => .eorZp b
  | 6 => .lsrZp b
  | 7 => .sreZp b
  | 8 => .pha
  | 9 => .eorImm b
  | 10 => .lsrAcc
  | 11 => .alrImm b
  | 12 => .jmpAbs (wordOfBytes c b)
  | 13 => .eorAbs (wordOfBytes c b)
  | 14 => .lsrAbs (wordOfBytes c b)
  | _ => .sreAbs (wordOfBytes c b)

/-- Row 5x of R102's grid; `b` and `c` are the two bytes after the opcode. -/
def decodeRow5 (col : Nat) (b c : Byte) : Instr :=
  match col with
  | 0 => .bvc b
  | 1 => .eorIndY b
  | 2 => .jam .x52
  | 3 => .sreIndY b
  | 4 => .nopZpX54 b
  | 5 => .eorZpX b
  | 6 => .lsrZpX b
  | 7 => .sreZpX b
  | 8 => .cli
  | 9 => .eorAbsY (wordOfBytes c b)
  | 10 => .nopImp5A
  | 11 => .sreAbsY (wordOfBytes c b)
  | 12 => .nopAbsX5C (wordOfBytes c b)
  | 13 => .eorAbsX (wordOfBytes c b)
  | 14 => .lsrAbsX (wordOfBytes c b)
  | _ => .sreAbsX (wordOfBytes c b)

/-- Row 6x of R102's grid; `b` and `c` are the two bytes after the opcode. -/
def decodeRow6 (col : Nat) (b c : Byte) : Instr :=
  match col with
  | 0 => .rts
  | 1 => .adcIndX b
  | 2 => .jam .x62
  | 3 => .rraIndX b
  | 4 => .nopZp64 b
  | 5 => .adcZp b
  | 6 => .rorZp b
  | 7 => .rraZp b
  | 8 => .pla
  | 9 => .adcImm b
  | 10 => .rorAcc
  | 11 => .arrImm b
  | 12 => .jmpInd (wordOfBytes c b)
  | 13 => .adcAbs (wordOfBytes c b)
  | 14 => .rorAbs (wordOfBytes c b)
  | _ => .rraAbs (wordOfBytes c b)

/-- Row 7x of R102's grid; `b` and `c` are the two bytes after the opcode. -/
def decodeRow7 (col : Nat) (b c : Byte) : Instr :=
  match col with
  | 0 => .bvs b
  | 1 => .adcIndY b
  | 2 => .jam .x72
  | 3 => .rraIndY b
  | 4 => .nopZpX74 b
  | 5 => .adcZpX b
  | 6 => .rorZpX b
  | 7 => .rraZpX b
  | 8 => .sei
  | 9 => .adcAbsY (wordOfBytes c b)
  | 10 => .nopImp7A
  | 11 => .rraAbsY (wordOfBytes c b)
  | 12 => .nopAbsX7C (wordOfBytes c b)
  | 13 => .adcAbsX (wordOfBytes c b)
  | 14 => .rorAbsX (wordOfBytes c b)
  | _ => .rraAbsX (wordOfBytes c b)

/-- Row 8x of R102's grid; `b` and `c` are the two bytes after the opcode. -/
def decodeRow8 (col : Nat) (b c : Byte) : Instr :=
  match col with
  | 0 => .nopImm80 b
  | 1 => .staIndX b
  | 2 => .nopImm82 b
  | 3 => .saxIndX b
  | 4 => .styZp b
  | 5 => .staZp b
  | 6 => .stxZp b
  | 7 => .saxZp b
  | 8 => .dey
  | 9 => .nopImm89 b
  | 10 => .txa
  | 11 => .ane8B
  | 12 => .styAbs (wordOfBytes c b)
  | 13 => .staAbs (wordOfBytes c b)
  | 14 => .stxAbs (wordOfBytes c b)
  | _ => .saxAbs (wordOfBytes c b)

/-- Row 9x of R102's grid; `b` and `c` are the two bytes after the opcode. -/
def decodeRow9 (col : Nat) (b c : Byte) : Instr :=
  match col with
  | 0 => .bcc b
  | 1 => .staIndY b
  | 2 => .jam .x92
  | 3 => .sha .x93
  | 4 => .styZpX b
  | 5 => .staZpX b
  | 6 => .stxZpY b
  | 7 => .saxZpY b
  | 8 => .tya
  | 9 => .staAbsY (wordOfBytes c b)
  | 10 => .txs
  | 11 => .tas9B
  | 12 => .shy9C
  | 13 => .staAbsX (wordOfBytes c b)
  | 14 => .shx9E
  | _ => .sha .x9F

/-- Row Ax of R102's grid; `b` and `c` are the two bytes after the opcode. -/
def decodeRowA (col : Nat) (b c : Byte) : Instr :=
  match col with
  | 0 => .ldyImm b
  | 1 => .ldaIndX b
  | 2 => .ldxImm b
  | 3 => .laxIndX b
  | 4 => .ldyZp b
  | 5 => .ldaZp b
  | 6 => .ldxZp b
  | 7 => .laxZp b
  | 8 => .tay
  | 9 => .ldaImm b
  | 10 => .tax
  | 11 => .lxaAB
  | 12 => .ldyAbs (wordOfBytes c b)
  | 13 => .ldaAbs (wordOfBytes c b)
  | 14 => .ldxAbs (wordOfBytes c b)
  | _ => .laxAbs (wordOfBytes c b)

/-- Row Bx of R102's grid; `b` and `c` are the two bytes after the opcode. -/
def decodeRowB (col : Nat) (b c : Byte) : Instr :=
  match col with
  | 0 => .bcs b
  | 1 => .ldaIndY b
  | 2 => .jam .xB2
  | 3 => .laxIndY b
  | 4 => .ldyZpX b
  | 5 => .ldaZpX b
  | 6 => .ldxZpY b
  | 7 => .laxZpY b
  | 8 => .clv
  | 9 => .ldaAbsY (wordOfBytes c b)
  | 10 => .tsx
  | 11 => .lasBB
  | 12 => .ldyAbsX (wordOfBytes c b)
  | 13 => .ldaAbsX (wordOfBytes c b)
  | 14 => .ldxAbsY (wordOfBytes c b)
  | _ => .laxAbsY (wordOfBytes c b)

/-- Row Cx of R102's grid; `b` and `c` are the two bytes after the opcode. -/
def decodeRowC (col : Nat) (b c : Byte) : Instr :=
  match col with
  | 0 => .cpyImm b
  | 1 => .cmpIndX b
  | 2 => .nopImmC2 b
  | 3 => .dcpIndX b
  | 4 => .cpyZp b
  | 5 => .cmpZp b
  | 6 => .decZp b
  | 7 => .dcpZp b
  | 8 => .iny
  | 9 => .cmpImm b
  | 10 => .dex
  | 11 => .sbxImm b
  | 12 => .cpyAbs (wordOfBytes c b)
  | 13 => .cmpAbs (wordOfBytes c b)
  | 14 => .decAbs (wordOfBytes c b)
  | _ => .dcpAbs (wordOfBytes c b)

/-- Row Dx of R102's grid; `b` and `c` are the two bytes after the opcode. -/
def decodeRowD (col : Nat) (b c : Byte) : Instr :=
  match col with
  | 0 => .bne b
  | 1 => .cmpIndY b
  | 2 => .jam .xD2
  | 3 => .dcpIndY b
  | 4 => .nopZpXD4 b
  | 5 => .cmpZpX b
  | 6 => .decZpX b
  | 7 => .dcpZpX b
  | 8 => .cld
  | 9 => .cmpAbsY (wordOfBytes c b)
  | 10 => .nopImpDA
  | 11 => .dcpAbsY (wordOfBytes c b)
  | 12 => .nopAbsXDC (wordOfBytes c b)
  | 13 => .cmpAbsX (wordOfBytes c b)
  | 14 => .decAbsX (wordOfBytes c b)
  | _ => .dcpAbsX (wordOfBytes c b)

/-- Row Ex of R102's grid; `b` and `c` are the two bytes after the opcode. -/
def decodeRowE (col : Nat) (b c : Byte) : Instr :=
  match col with
  | 0 => .cpxImm b
  | 1 => .sbcIndX b
  | 2 => .nopImmE2 b
  | 3 => .iscIndX b
  | 4 => .cpxZp b
  | 5 => .sbcZp b
  | 6 => .incZp b
  | 7 => .iscZp b
  | 8 => .inx
  | 9 => .sbcImm b
  | 10 => .nop
  | 11 => .usbcImm b
  | 12 => .cpxAbs (wordOfBytes c b)
  | 13 => .sbcAbs (wordOfBytes c b)
  | 14 => .incAbs (wordOfBytes c b)
  | _ => .iscAbs (wordOfBytes c b)

/-- Row Fx of R102's grid; `b` and `c` are the two bytes after the opcode. -/
def decodeRowF (col : Nat) (b c : Byte) : Instr :=
  match col with
  | 0 => .beq b
  | 1 => .sbcIndY b
  | 2 => .jam .xF2
  | 3 => .iscIndY b
  | 4 => .nopZpXF4 b
  | 5 => .sbcZpX b
  | 6 => .incZpX b
  | 7 => .iscZpX b
  | 8 => .sed
  | 9 => .sbcAbsY (wordOfBytes c b)
  | 10 => .nopImpFA
  | 11 => .iscAbsY (wordOfBytes c b)
  | 12 => .nopAbsXFC (wordOfBytes c b)
  | 13 => .sbcAbsX (wordOfBytes c b)
  | 14 => .incAbsX (wordOfBytes c b)
  | _ => .iscAbsX (wordOfBytes c b)

/-- The instruction an opcode byte and the two bytes after it stand for: every one of the 256 opcode bytes has its row
(R107). The bytes past the instruction's length are not used (R81). -/
def decodeBytes (op b c : Byte) : Instr :=
  let col := op.toNat % 16
  match op.toNat / 16 with
  | 0 => decodeRow0 col b c
  | 1 => decodeRow1 col b c
  | 2 => decodeRow2 col b c
  | 3 => decodeRow3 col b c
  | 4 => decodeRow4 col b c
  | 5 => decodeRow5 col b c
  | 6 => decodeRow6 col b c
  | 7 => decodeRow7 col b c
  | 8 => decodeRow8 col b c
  | 9 => decodeRow9 col b c
  | 10 => decodeRowA col b c
  | 11 => decodeRowB col b c
  | 12 => decodeRowC col b c
  | 13 => decodeRowD col b c
  | 14 => decodeRowE col b c
  | _ => decodeRowF col b c

/-- Why a list of bytes is no instruction. -/
inductive DecodeError where
  /-- There is no opcode byte. Raised by `decode`. Safe: a fetch from memory always finds its bytes (R57). -/
  | noBytes
  /-- The opcode's operand bytes are not all there. Raised by `decode`. Safe, as above. -/
  | truncated (opcode : Byte)
  deriving DecidableEq, Repr

/-- The first instruction of a list of bytes and the bytes after it. Its length depends on the opcode byte alone (R81). -/
def decode : List Byte → Except DecodeError (Instr × List Byte)
  | [] => .error .noBytes
  | op :: rest =>
    let n := (decodeBytes op 0 0).length - 1
    if rest.length < n then .error (.truncated op)
    else .ok (decodeBytes op (rest.getD 0 0) (rest.getD 1 0), rest.drop n)

/-- The bytes of an instruction in the order they are stored: the opcode, then the operand bytes (R80, R82). -/
def encode (i : Instr) : List Byte := i.opcode :: i.mode.operandBytes

/-- Three bytes of a word numbered as spec/opcode_table.json numbers it: bit 0 is the least significant bit of the first
byte. Every bit at or above `nbits` is 0. -/
def wordBytes (nbits w : Nat) : List Byte :=
  let v := w % 2 ^ nbits
  [BitVec.ofNat 8 v, BitVec.ofNat 8 (v / 2 ^ 8), BitVec.ofNat 8 (v / 2 ^ 16)]

/-- The instruction the decoder reads from the table word `w` of `nbits` bits, operand bytes of zero above them. -/
def decodeTableWord (nbits w : Nat) : Option Instr :=
  match decode (wordBytes nbits w) with
  | .ok (i, _) => some i
  | .error _ => none

end Sys2Proof
end

