-- ==== Sys2Proof/Machine/Flags.lean ====
section
/-! DEFINITION. The status register's bits (10_state.md R27 to R29), the arithmetic of 42_arithmetic.md (R170 to R174,
R177) and the shifts of 43_logic_shift.md (R200). Every function here is pure. -/

namespace Sys2Proof.Machine

/-- The named bits of `P` (R27). Bit 5 has no accessor: no rule writes or reads it alone (R30). -/
inductive Flag where
  | n | v | b | d | i | z | c
  deriving DecidableEq, Repr

/-- The mask of a flag (R27). -/
def Flag.mask : Flag → Byte
  | .n => 0x80
  | .v => 0x40
  | .b => 0x10
  | .d => 0x08
  | .i => 0x04
  | .z => 0x02
  | .c => 0x01

/-- Bits 5 and 4 of `P`, which PHP pushes as 1 and PLP and RTI leave alone (R30, R31). -/
def keptBits : Byte := 0x30

/-- Reading a flag (R28). -/
def getFlag (f : Flag) (p : Byte) : Bool := (p &&& f.mask) != 0

/-- Writing a flag (R28). -/
def setFlag (f : Flag) (v : Bool) (p : Byte) : Byte := if v then p ||| f.mask else p &&& ~~~f.mask

/-- `SetNZ(v)` on a value of `P` (R29). -/
def setNZ (v p : Byte) : Byte := setFlag .z (v == 0) (setFlag .n (v.getLsbD 7) p)

/-- The byte PLP and RTI leave in `P` when they pull `pulled` (R159, R232). -/
def pulledStatus (pulled p : Byte) : Byte := (pulled &&& ~~~keptBits) ||| (p &&& keptBits)

/-- A result with the four flags an addition or subtraction gives (R170). -/
structure AluResult where
  value : Byte
  c : Bool
  v : Bool
  n : Bool
  z : Bool
  deriving DecidableEq, Repr

/-- The four flags of an addition or subtraction written to a value of `P` (R175, R176). -/
def AluResult.setFlags (r : AluResult) (p : Byte) : Byte :=
  setFlag .z r.z (setFlag .n r.n (setFlag .v r.v (setFlag .c r.c p)))

/-- `AddBinary` (R170). -/
def addBinary (a m : Byte) (c : Bool) : AluResult :=
  let raw := a.toNat + m.toNat + c.toNat
  let r := BitVec.ofNat 8 raw
  { value := r
    c := decide (raw > 0xFF)
    v := a.getLsbD 7 == m.getLsbD 7 && a.getLsbD 7 != r.getLsbD 7
    n := r.getLsbD 7
    z := r == 0 }

/-- `SubBinary` (R171); a carry of 1 means no borrow. -/
def subBinary (a m : Byte) (c : Bool) : AluResult :=
  let borrow : Int := 1 - c.toNat
  let raw : Int := (a.toNat : Int) - m.toNat - borrow
  let r := BitVec.ofInt 8 raw
  { value := r
    c := decide (raw ≥ 0)
    v := a.getLsbD 7 != m.getLsbD 7 && a.getLsbD 7 != r.getLsbD 7
    n := r.getLsbD 7
    z := r == 0 }

/-- `AddDecimalNMOS` (R173). -/
def addDecimalNmos (a m : Byte) (c : Bool) : AluResult :=
  let lo0 := (a &&& 0x0F).toNat + (m &&& 0x0F).toNat + c.toNat
  let lo := if lo0 ≥ 0x0A then (lo0 + 0x06) % 0x10 + 0x10 else lo0
  let t := (a &&& 0xF0).toNat + (m &&& 0xF0).toNat + lo
  let ts : Int := (a &&& 0xF0).toInt + (m &&& 0xF0).toInt + lo
  let t' := if t ≥ 0xA0 then t + 0x60 else t
  { value := BitVec.ofNat 8 t'
    c := decide (t' ≥ 0x100)
    v := decide (ts < -128 ∨ ts > 127)
    n := t.testBit 7
    z := (a.toNat + m.toNat + c.toNat) % 0x100 == 0 }

/-- `SubDecimalNMOS` (R174): the flags are the binary ones. `%` on `Int` is the non-negative remainder. -/
def subDecimalNmos (a m : Byte) (c : Bool) : AluResult :=
  let lo0 : Int := ((a &&& 0x0F).toNat : Int) - (m &&& 0x0F).toNat + c.toNat - 1
  let lo : Int := if lo0 < 0 then (lo0 - 0x06) % 16 - 0x10 else lo0
  let t0 : Int := ((a &&& 0xF0).toNat : Int) - (m &&& 0xF0).toNat + lo
  let t : Int := if t0 < 0 then t0 - 0x60 else t0
  { subBinary a m c with value := BitVec.ofInt 8 t }

/-- `Compare(reg, m)` on a value of `P` (R177). -/
def compareFlags (reg m p : Byte) : Byte :=
  let t : Int := (reg.toNat : Int) - m.toNat
  setNZ (BitVec.ofInt 8 t) (setFlag .c (decide (reg.toNat ≥ m.toNat)) p)

/-- `ASL8(v)`: the result and the bit shifted out (R200). -/
def asl8 (v : Byte) : Byte × Bool := (v <<< 1, v.getLsbD 7)

/-- `LSR8(v)` (R200). -/
def lsr8 (v : Byte) : Byte × Bool := (v >>> 1, v.getLsbD 0)

/-- `ROL8(v, c)` (R200). -/
def rol8 (v : Byte) (c : Bool) : Byte × Bool := ((v <<< 1) ||| (if c then 0x01 else 0x00), v.getLsbD 7)

/-- `ROR8(v, c)` (R200). -/
def ror8 (v : Byte) (c : Bool) : Byte × Bool := ((v >>> 1) ||| (if c then 0x80 else 0x00), v.getLsbD 0)

end Sys2Proof.Machine
end

