-- ==== Sys2Proof/Machine/State.lean ====
section
/-! DEFINITION. The state of the machine as plain data (10_state.md R20 to R42), the reasons a step can stop, and the
state at session bootstrap (R41). -/

namespace Sys2Proof.Machine

/-- Why the run was halted (R35). -/
inductive HaltReason where
  /-- BRK was executed (R233, R303). -/
  | brk
  /-- The host stopped the loop between two steps (R304, R334). -/
  | hostStop
  deriving DecidableEq, Repr

/-- Why an instruction was refused (R35, R305): the one reason the spec has. -/
inductive RefusalReason where
  | decimalMode
  deriving DecidableEq, Repr

/-- The execution-engine state (R35). No instruction reads it. -/
inductive Status where
  | idle
  | running
  | halted (reason : HaltReason)
  | faulted (opcode : Byte) (address : Addr)
  | refused (reason : RefusalReason) (opcode : Byte) (address : Addr)
  deriving DecidableEq, Repr

/-- The 65536 bytes of memory (R50): the bytes that are not 0x00, strictly rising by address. Every other byte reads as
0x00, the value memory is created with. DESIGN CHOICE of representation (log 7). -/
abbrev Memory := List Host.Cell

/-- Everything the spec gives the machine. `policy` is the model's own: the two parameters of R6 that a step reads
(log 1). -/
structure State where
  pc : Addr
  sp : Byte
  a : Byte
  x : Byte
  y : Byte
  p : Byte
  mem : Memory
  cycles : Nat
  status : Status
  policy : Policy
  deriving DecidableEq, Repr

/-- Why the machine stops. -/
inductive Fault where
  /-- Raised by `step` in a status other than `running`: no step is enabled there (R84, R302, R303, R306, R317). No
  instruction raises it. Safe: nothing runs where the spec lets nothing run (log 2). -/
  | notRunning (status : Status)
  deriving DecidableEq, Repr

/-- Why an instruction has no meaning. -/
inductive Refusal where
  /-- An arm of `exec` without a meaning would raise it. No arm does. Safe. -/
  | notModelled (mnemonic : String)
  deriving DecidableEq, Repr

/-- What a meaning answers. -/
abbrev Result := Host.Outcome State Fault Refusal

/-- The state at session bootstrap under the default parameters (R41, R330): memory all 0x00, the engine idle.
Machine/HostMoves.lean gives it for any parameters. -/
def State.reset : State where
  pc := 0x0600
  sp := 0xFF
  a := 0x00
  x := 0x00
  y := 0x00
  p := 0x00
  mem := []
  cycles := 0
  status := .idle
  policy := {}

end Sys2Proof.Machine
end

