-- ==== Sys2Proof/Machine/Ops.lean ====
section
/-! DEFINITION. The named operations over memory, registers and the stack (20_memory.md R50 to R62, 30_encoding.md R83),
and the ends of a step that are not an executed instruction (60_exceptions.md R300 to R306). -/

namespace Sys2Proof.Machine

/-- What an address with no entry reads as: memory is created zero (R50). -/
def Memory.unlisted : Byte := 0x00

/-- The byte at an address (R51). -/
def Memory.read : Memory → Nat → Byte
  | [], _ => Memory.unlisted
  | (b, w) :: rest, a => if a = b then w else Memory.read rest a

/-- An entry put in front, left out when it holds what an unlisted address reads as. -/
def Memory.cons (a : Nat) (v : Byte) (m : Memory) : Memory := if v = Memory.unlisted then m else (a, v) :: m

/-- The memory after one byte is written (R52), in the canonical form of `Memory.wf`. -/
def Memory.write : Memory → Nat → Byte → Memory
  | [], a, v => Memory.cons a v []
  | (b, w) :: rest, a, v =>
    if a < b then Memory.cons a v ((b, w) :: rest)
    else if a = b then Memory.cons a v rest
    else (b, w) :: Memory.write rest a v

/-- The entries stand at addresses of at least `lo`, strictly rising, below 65536, none of them 0x00. -/
def Memory.wfFrom : Nat → Memory → Bool
  | _, [] => true
  | lo, (a, v) :: rest => decide (lo ≤ a) && decide (a < 65536) && v != Memory.unlisted && Memory.wfFrom (a + 1) rest

/-- The canonical form of memory: two memories in it that read alike are equal. -/
def Memory.wf (m : Memory) : Bool := Memory.wfFrom 0 m

/-- `MemRead(a, 1)` (R51). -/
def State.read (s : State) (a : Addr) : Byte := Memory.read s.mem a.toNat

/-- `MemWrite(a, 1, v)` (R52). -/
def State.write (s : State) (a : Addr) (v : Byte) : State := { s with mem := Memory.write s.mem a.toNat v }

/-- `ReadWord(a)`: little-endian, the high byte's address wrapping (R53). -/
def State.readWord (s : State) (a : Addr) : Addr := wordOfBytes (s.read (a + 1)) (s.read a)

/-- `WriteWord(a, v)`: the low byte, then the high byte (R54). No instruction uses it. -/
def State.writeWord (s : State) (a v : Addr) : State := (s.write a (lowByte v)).write (a + 1) (highByte v)

/-- `PC <- v` (R21). -/
def State.setPc (s : State) (v : Addr) : State := { s with pc := v }

/-- `SP <- v` (R22). -/
def State.setSp (s : State) (v : Byte) : State := { s with sp := v }

/-- `A <- v` (R23). -/
def State.setA (s : State) (v : Byte) : State := { s with a := v }

/-- `X <- v` (R24). -/
def State.setX (s : State) (v : Byte) : State := { s with x := v }

/-- `Y <- v` (R25). -/
def State.setY (s : State) (v : Byte) : State := { s with y := v }

/-- `P <- v` (R26). -/
def State.setP (s : State) (v : Byte) : State := { s with p := v }

/-- `status <- v` (R35). -/
def State.setStatus (s : State) (v : Status) : State := { s with status := v }

/-- `cycles += n` (R36). -/
def State.addCycles (s : State) (n : Nat) : State := { s with cycles := s.cycles + n }

/-- Reading flag `f` of `P` (R28). -/
def State.flag (s : State) (f : Flag) : Bool := getFlag f s.p

/-- Writing flag `f` of `P` (R28). -/
def State.setFlag (s : State) (f : Flag) (v : Bool) : State := s.setP (Machine.setFlag f v s.p)

/-- `SetNZ(v)` (R29). -/
def State.setNZ (s : State) (v : Byte) : State := s.setP (Machine.setNZ v s.p)

/-- `Compare(reg, m)` (R177). -/
def State.compare (s : State) (reg m : Byte) : State := s.setP (compareFlags reg m s.p)

/-- The address in page zero of a byte (R90). -/
def zeroPageAddr (b : Byte) : Addr := b.setWidth 16

/-- `0x0100 + SP` for the value `sp` of the stack pointer (R22, R60). -/
def stackAddr (sp : Byte) : Addr := 0x0100 + sp.setWidth 16

/-- `Push(v)` (R60). -/
def State.push (s : State) (v : Byte) : State := (s.write (stackAddr s.sp) v).setSp (s.sp - 1)

/-- The byte `Pull()` returns (R61). -/
def State.pulled (s : State) : Byte := s.read (stackAddr (s.sp + 1))

/-- What `Pull()` leaves (R61). -/
def State.pull (s : State) : State := s.setSp (s.sp + 1)

/-- A word pulled low byte first (R231, R232). -/
def State.pulledWord (s : State) : Addr := wordOfBytes s.pull.pulled s.pulled

/-- What pulling a word leaves (R231, R232). -/
def State.pullWord (s : State) : State := s.pull.pull

/-- A word pushed high byte first (R230). -/
def State.pushWord (s : State) (w : Addr) : State := (s.push (highByte w)).push (lowByte w)

/-- The byte that `n` calls of `Fetch()` after the first would read: the one at `PC + n`, wrapping (R83, R80). -/
def State.codeByte (s : State) (n : Nat) : Byte := s.read (s.pc + BitVec.ofNat 16 n)

/-- The instruction at `PC` (R84). All three bytes an instruction can have are read before its length is known, which no
rule lets anything observe (R51, R66). -/
def State.fetched (s : State) : Instr := decodeBytes (s.codeByte 0) (s.codeByte 1) (s.codeByte 2)

/-- TAKING THE EXCEPTION: the state after `Fault(IllegalOpcode{opcode, PC})` (R301, R302). The design saves nothing else
and enters no handler (R308). -/
def State.takeIllegalOpcode (s : State) (opcode : Byte) : State :=
  { s with pc := s.pc + 1, status := .faulted opcode s.pc }

/-- The state after `Refuse(reason{opcode, PC})`: only `status` changes (R305, R306). -/
def State.takeRefusal (s : State) (reason : RefusalReason) (opcode : Byte) : State :=
  { s with status := .refused reason opcode s.pc }

/-- The normal halt that BRK takes (R233, R303). -/
def State.takeBreak (s : State) : State := (s.setFlag .b true).setStatus (.halted .brk)

/-- The return that RTI makes from a frame the program built: `P`, then `PC` low, then `PC` high, no `+1` (R232, R309). -/
def State.returnFromInterrupt (s : State) : State :=
  let s1 := s.pull.setP (pulledStatus s.pulled s.p)
  s1.pullWord.setPc s1.pulledWord

end Sys2Proof.Machine
end

