-- ==== Sys2Proof/Machine/Operands.lean ====
section
/-! DEFINITION. The addressing-mode resolver (30_encoding.md R87 to R99) and the operand accesses (R101). -/

namespace Sys2Proof.Machine

/-- What a mode resolves to. -/
inductive Operand where
  | none
  | acc
  | imm (v : Byte)
  | mem (ea : Addr)
  | rel (target : Addr)
  deriving DecidableEq, Repr

/-- An operand and whether an indexed address left the page of its base. -/
structure Resolved where
  opnd : Operand
  crossed : Bool
  deriving DecidableEq, Repr

/-- Two addresses are on different pages (R11). -/
def crossesPage (a b : Addr) : Bool := highByte a != highByte b

/-- `base + index` modulo 2^16, with the page-cross flag (R94, R95, R98). -/
def indexed (base : Addr) (index : Byte) : Resolved :=
  let ea := base + index.setWidth 16
  ⟨.mem ea, crossesPage ea base⟩

/-- The word whose two bytes stand in page zero at `b` and `b + 1`, wrapping within the page (R97, R98). -/
def State.zeroPageWord (s : State) (b : Byte) : Addr :=
  wordOfBytes (s.read (zeroPageAddr (b + 1))) (s.read (zeroPageAddr b))

/-- The word JMP indirect reads: its high byte comes from the same page as its low byte (R96). -/
def State.indirectWord (s : State) (ptr : Addr) : Addr :=
  wordOfBytes (s.read ((ptr &&& 0xFF00) ||| ((ptr + 1) &&& 0x00FF))) (s.read ptr)

/-- `Resolve(mode)` in a state whose `PC` is past the operand bytes (R84, R87 to R99). -/
def resolve (s : State) : AddrMode → Resolved
  | .implied => ⟨.none, false⟩
  | .accumulator => ⟨.acc, false⟩
  | .immediate v => ⟨.imm v, false⟩
  | .zeroPage b => ⟨.mem (zeroPageAddr b), false⟩
  | .zeroPageX b => ⟨.mem (zeroPageAddr (b + s.x)), false⟩
  | .zeroPageY b => ⟨.mem (zeroPageAddr (b + s.y)), false⟩
  | .absolute w => ⟨.mem w, false⟩
  | .absoluteX w => indexed w s.x
  | .absoluteY w => indexed w s.y
  | .indirect ptr => ⟨.mem (s.indirectWord ptr), false⟩
  | .indirectX b => ⟨.mem (s.zeroPageWord (b + s.x)), false⟩
  | .indirectY b => indexed (s.zeroPageWord b) s.y
  | .relative off => ⟨.rel (s.pc + off.signExtend 16), false⟩

/-- `ReadOperand(opnd)` (R101). R101 does not apply it to `None` or `Rel`, and no row does (log 6). -/
def readOperand (s : State) : Operand → Byte
  | .imm v => v
  | .acc => s.a
  | .mem ea => s.read ea
  | .none | .rel _ => Config.unappliedOperand

/-- `WriteOperand(opnd, v)` (R101). R101 does not apply it to `Imm`, `None` or `Rel`, and no row does (log 6). -/
def writeOperand (s : State) (v : Byte) : Operand → State
  | .acc => s.setA v
  | .mem ea => s.write ea v
  | .imm _ | .none | .rel _ => s

end Sys2Proof.Machine
end

