-- ==== Sys2Proof/Machine/Execute.lean ====
section
/-! DEFINITION. What every instruction's step has in common (30_encoding.md R84): the illegal-opcode fault, the decimal
refusal, and else the advance of `PC`, the charge to `cycles`, the operand, and the instruction's own rule. -/

namespace Sys2Proof.Machine

/-- An instruction's own rule: what it does with its operand, `PC` being past its last byte (44_control.md preamble). -/
abbrev Rule := Operand → State → State

/-- `PC` after the opcode byte and the mode's operand bytes (R21, R83). -/
def State.pastInstr (s : State) (i : Instr) : State := s.setPc (s.pc + BitVec.ofNat 16 i.length)

/-- The operand of an instruction at `PC` and its page-cross flag (R84). -/
def State.resolved (s : State) (i : Instr) : Resolved := resolve (s.pastInstr i) i.mode

/-- The cycles charged before the rule runs: the base cost, and 1 for a page crossing the row pays for (R86, R100). -/
def State.cost (s : State) (i : Instr) : Nat :=
  i.descriptor.base + if i.descriptor.penalty && (s.resolved i).crossed then 1 else 0

/-- The state in which the instruction's rule runs (R84). -/
def State.begun (s : State) (i : Instr) : State := (s.pastInstr i).addCycles (s.cost i)

/-- `Refused(d, P)` (R172). -/
def State.decimalRefused (s : State) (m : Mnemonic) : Bool :=
  s.flag .d &&
    match m with
    | .adc | .sbc | .rra | .isc => s.policy.decimal == .refuse
    | .arr => s.policy.decimal != .binary
    | _ => false

/-- `Step()` from its decoded opcode on, for the instruction `i` at `PC` with its rule (R84, R310). -/
def perform (i : Instr) (rule : Rule) (s : State) : Result :=
  if i.mapped s.policy then
    if s.decimalRefused i.mnemonic then .next (s.takeRefusal .decimalMode i.opcode)
    else .next (rule (s.resolved i).opnd (s.begun i))
  else .next (s.takeIllegalOpcode i.opcode)

/-- `Step()` for an unmapped byte, whose instruction has no rule (R84, R105, R106). -/
def performUnmapped (i : Instr) (s : State) : Result := .next (s.takeIllegalOpcode i.opcode)

end Sys2Proof.Machine
end

