-- ==== Sys2Proof/Machine/Arithmetic.lean ====
section
/-! DEFINITION. 42_arithmetic.md (R170 to R187): addition, subtraction, compares, increments and decrements.
First each mnemonic's rule, then one meaning per row of the opcode table. -/

namespace Sys2Proof.Machine

/-- `Add(A, m, P.C)` (R172). -/
def State.aluAdd (s : State) (m : Byte) : AluResult :=
  if s.flag .d && s.policy.decimal == .nmos then addDecimalNmos s.a m (s.flag .c) else addBinary s.a m (s.flag .c)

/-- `Sub(A, m, P.C)` (R172). -/
def State.aluSub (s : State) (m : Byte) : AluResult :=
  if s.flag .d && s.policy.decimal == .nmos then subDecimalNmos s.a m (s.flag .c) else subBinary s.a m (s.flag .c)

/-- `A <- r; P.C <- c'; P.V <- v'; P.N <- n'; P.Z <- z'` (R175, R176). -/
def State.setAlu (s : State) (r : AluResult) : State := (s.setA r.value).setP (r.setFlags s.p)

/-- ADC (R175). -/
def adcRule : Rule := fun o s => s.setAlu (s.aluAdd (readOperand s o))

/-- SBC (R176), and SBC 0xEB (R273). -/
def sbcRule : Rule := fun o s => s.setAlu (s.aluSub (readOperand s o))

/-- CMP (R178): `Compare(A, ReadOperand(opnd))`. -/
def cmpRule : Rule := fun o s => s.compare s.a (readOperand s o)

/-- CPX (R179): `Compare(X, ReadOperand(opnd))`. -/
def cpxRule : Rule := fun o s => s.compare s.x (readOperand s o)

/-- CPY (R180): `Compare(Y, ReadOperand(opnd))`. -/
def cpyRule : Rule := fun o s => s.compare s.y (readOperand s o)

/-- INC (R181): `r <- (ReadOperand(opnd) + 1) mod 2^8; WriteOperand(opnd, r); SetNZ(r)`. -/
def incRule : Rule := fun o s => let r := readOperand s o + 1; (writeOperand s r o).setNZ r

/-- INX (R182): `X <- (X + 1) mod 2^8; SetNZ(X)`. -/
def inxRule : Rule := fun _ s => (s.setX (s.x + 1)).setNZ (s.x + 1)

/-- INY (R183): `Y <- (Y + 1) mod 2^8; SetNZ(Y)`. -/
def inyRule : Rule := fun _ s => (s.setY (s.y + 1)).setNZ (s.y + 1)

/-- DEC (R184): `r <- (ReadOperand(opnd) - 1) mod 2^8; WriteOperand(opnd, r); SetNZ(r)`. -/
def decRule : Rule := fun o s => let r := readOperand s o - 1; (writeOperand s r o).setNZ r

/-- DEX (R185): `X <- (X - 1) mod 2^8; SetNZ(X)`. -/
def dexRule : Rule := fun _ s => (s.setX (s.x - 1)).setNZ (s.x - 1)

/-- DEY (R186): `Y <- (Y - 1) mod 2^8; SetNZ(Y)`. -/
def deyRule : Rule := fun _ s => (s.setY (s.y - 1)).setNZ (s.y - 1)

/-- 0x61 ADC (indirect,X) (R175). -/
def execAdcIndX (zp : Byte) (s : State) : Result := perform (.adcIndX zp) adcRule s

/-- 0x65 ADC zero page (R175). -/
def execAdcZp (zp : Byte) (s : State) : Result := perform (.adcZp zp) adcRule s

/-- 0x69 ADC immediate (R175). -/
def execAdcImm (v : Byte) (s : State) : Result := perform (.adcImm v) adcRule s

/-- 0x6D ADC absolute (R175). -/
def execAdcAbs (addr : Addr) (s : State) : Result := perform (.adcAbs addr) adcRule s

/-- 0x71 ADC (indirect),Y (R175). -/
def execAdcIndY (zp : Byte) (s : State) : Result := perform (.adcIndY zp) adcRule s

/-- 0x75 ADC zero page,X (R175). -/
def execAdcZpX (zp : Byte) (s : State) : Result := perform (.adcZpX zp) adcRule s

/-- 0x79 ADC absolute,Y (R175). -/
def execAdcAbsY (addr : Addr) (s : State) : Result := perform (.adcAbsY addr) adcRule s

/-- 0x7D ADC absolute,X (R175). -/
def execAdcAbsX (addr : Addr) (s : State) : Result := perform (.adcAbsX addr) adcRule s

/-- 0xE1 SBC (indirect,X) (R176). -/
def execSbcIndX (zp : Byte) (s : State) : Result := perform (.sbcIndX zp) sbcRule s

/-- 0xE5 SBC zero page (R176). -/
def execSbcZp (zp : Byte) (s : State) : Result := perform (.sbcZp zp) sbcRule s

/-- 0xE9 SBC immediate (R176). -/
def execSbcImm (v : Byte) (s : State) : Result := perform (.sbcImm v) sbcRule s

/-- 0xED SBC absolute (R176). -/
def execSbcAbs (addr : Addr) (s : State) : Result := perform (.sbcAbs addr) sbcRule s

/-- 0xF1 SBC (indirect),Y (R176). -/
def execSbcIndY (zp : Byte) (s : State) : Result := perform (.sbcIndY zp) sbcRule s

/-- 0xF5 SBC zero page,X (R176). -/
def execSbcZpX (zp : Byte) (s : State) : Result := perform (.sbcZpX zp) sbcRule s

/-- 0xF9 SBC absolute,Y (R176). -/
def execSbcAbsY (addr : Addr) (s : State) : Result := perform (.sbcAbsY addr) sbcRule s

/-- 0xFD SBC absolute,X (R176). -/
def execSbcAbsX (addr : Addr) (s : State) : Result := perform (.sbcAbsX addr) sbcRule s

/-- 0xC1 CMP (indirect,X) (R178). -/
def execCmpIndX (zp : Byte) (s : State) : Result := perform (.cmpIndX zp) cmpRule s

/-- 0xC5 CMP zero page (R178). -/
def execCmpZp (zp : Byte) (s : State) : Result := perform (.cmpZp zp) cmpRule s

/-- 0xC9 CMP immediate (R178). -/
def execCmpImm (v : Byte) (s : State) : Result := perform (.cmpImm v) cmpRule s

/-- 0xCD CMP absolute (R178). -/
def execCmpAbs (addr : Addr) (s : State) : Result := perform (.cmpAbs addr) cmpRule s

/-- 0xD1 CMP (indirect),Y (R178). -/
def execCmpIndY (zp : Byte) (s : State) : Result := perform (.cmpIndY zp) cmpRule s

/-- 0xD5 CMP zero page,X (R178). -/
def execCmpZpX (zp : Byte) (s : State) : Result := perform (.cmpZpX zp) cmpRule s

/-- 0xD9 CMP absolute,Y (R178). -/
def execCmpAbsY (addr : Addr) (s : State) : Result := perform (.cmpAbsY addr) cmpRule s

/-- 0xDD CMP absolute,X (R178). -/
def execCmpAbsX (addr : Addr) (s : State) : Result := perform (.cmpAbsX addr) cmpRule s

/-- 0xE0 CPX immediate (R179). -/
def execCpxImm (v : Byte) (s : State) : Result := perform (.cpxImm v) cpxRule s

/-- 0xE4 CPX zero page (R179). -/
def execCpxZp (zp : Byte) (s : State) : Result := perform (.cpxZp zp) cpxRule s

/-- 0xEC CPX absolute (R179). -/
def execCpxAbs (addr : Addr) (s : State) : Result := perform (.cpxAbs addr) cpxRule s

/-- 0xC0 CPY immediate (R180). -/
def execCpyImm (v : Byte) (s : State) : Result := perform (.cpyImm v) cpyRule s

/-- 0xC4 CPY zero page (R180). -/
def execCpyZp (zp : Byte) (s : State) : Result := perform (.cpyZp zp) cpyRule s

/-- 0xCC CPY absolute (R180). -/
def execCpyAbs (addr : Addr) (s : State) : Result := perform (.cpyAbs addr) cpyRule s

/-- 0xE6 INC zero page (R181). -/
def execIncZp (zp : Byte) (s : State) : Result := perform (.incZp zp) incRule s

/-- 0xEE INC absolute (R181). -/
def execIncAbs (addr : Addr) (s : State) : Result := perform (.incAbs addr) incRule s

/-- 0xF6 INC zero page,X (R181). -/
def execIncZpX (zp : Byte) (s : State) : Result := perform (.incZpX zp) incRule s

/-- 0xFE INC absolute,X (R181). -/
def execIncAbsX (addr : Addr) (s : State) : Result := perform (.incAbsX addr) incRule s

/-- 0xE8 INX implied (R182). -/
def execInx (s : State) : Result := perform .inx inxRule s

/-- 0xC8 INY implied (R183). -/
def execIny (s : State) : Result := perform .iny inyRule s

/-- 0xC6 DEC zero page (R184). -/
def execDecZp (zp : Byte) (s : State) : Result := perform (.decZp zp) decRule s

/-- 0xCE DEC absolute (R184). -/
def execDecAbs (addr : Addr) (s : State) : Result := perform (.decAbs addr) decRule s

/-- 0xD6 DEC zero page,X (R184). -/
def execDecZpX (zp : Byte) (s : State) : Result := perform (.decZpX zp) decRule s

/-- 0xDE DEC absolute,X (R184). -/
def execDecAbsX (addr : Addr) (s : State) : Result := perform (.decAbsX addr) decRule s

/-- 0xCA DEX implied (R185). -/
def execDex (s : State) : Result := perform .dex dexRule s

/-- 0x88 DEY implied (R186). -/
def execDey (s : State) : Result := perform .dey deyRule s

end Sys2Proof.Machine
end

