-- ==== Sys2Proof/Machine/Control.lean ====
section
/-! DEFINITION. 44_control.md (R220 to R241): branches, jumps, subroutines, BRK, NOP and the flag instructions.
First each mnemonic's rule, then one meaning per row of the opcode table. -/

namespace Sys2Proof.Machine

/-- `Branch(cond, opnd)` (R220). The relative mode always resolves to `Rel`; R220 has no other operand. -/
def branch (cond : State → Bool) : Rule := fun o s =>
  match o with
  | .rel target =>
    if cond s then (s.addCycles (1 + if crossesPage target s.pc then 1 else 0)).setPc target else s
  | _ => s

/-- BPL (R221). -/
def bplRule : Rule := branch fun s => !s.flag .n

/-- BMI (R222). -/
def bmiRule : Rule := branch fun s => s.flag .n

/-- BVC (R223). -/
def bvcRule : Rule := branch fun s => !s.flag .v

/-- BVS (R224). -/
def bvsRule : Rule := branch fun s => s.flag .v

/-- BCC (R225). -/
def bccRule : Rule := branch fun s => !s.flag .c

/-- BCS (R226). -/
def bcsRule : Rule := branch fun s => s.flag .c

/-- BNE (R227). -/
def bneRule : Rule := branch fun s => !s.flag .z

/-- BEQ (R228). -/
def beqRule : Rule := branch fun s => s.flag .z

/-- JMP (R229): `PC <- ea`. Both of its modes resolve to `Mem`. -/
def jmpRule : Rule := fun o s =>
  match o with
  | .mem ea => s.setPc ea
  | _ => s

/-- JSR (R230): pushes the address of its own last byte, high byte first, then jumps. -/
def jsrRule : Rule := fun o s =>
  match o with
  | .mem ea => (s.pushWord (s.pc - 1)).setPc ea
  | _ => s

/-- RTS (R231): pulls low then high; `PC` is the word plus one. -/
def rtsRule : Rule := fun _ s => s.pullWord.setPc (s.pulledWord + 1)

/-- RTI (R232). -/
def rtiRule : Rule := fun _ s => s.returnFromInterrupt

/-- BRK (R233): the normal halt. -/
def brkRule : Rule := fun _ s => s.takeBreak

/-- NOP (R234): nothing. -/
def nopRule : Rule := fun _ s => s

/-- CLC (R235). -/
def clcRule : Rule := fun _ s => s.setFlag .c false

/-- SEC (R236). -/
def secRule : Rule := fun _ s => s.setFlag .c true

/-- CLI (R237). -/
def cliRule : Rule := fun _ s => s.setFlag .i false

/-- SEI (R238). -/
def seiRule : Rule := fun _ s => s.setFlag .i true

/-- CLV (R239). -/
def clvRule : Rule := fun _ s => s.setFlag .v false

/-- CLD (R240). -/
def cldRule : Rule := fun _ s => s.setFlag .d false

/-- SED (R241). -/
def sedRule : Rule := fun _ s => s.setFlag .d true

/-- 0x10 BPL relative (R221). -/
def execBpl (off : Byte) (s : State) : Result := perform (.bpl off) bplRule s

/-- 0x30 BMI relative (R222). -/
def execBmi (off : Byte) (s : State) : Result := perform (.bmi off) bmiRule s

/-- 0x50 BVC relative (R223). -/
def execBvc (off : Byte) (s : State) : Result := perform (.bvc off) bvcRule s

/-- 0x70 BVS relative (R224). -/
def execBvs (off : Byte) (s : State) : Result := perform (.bvs off) bvsRule s

/-- 0x90 BCC relative (R225). -/
def execBcc (off : Byte) (s : State) : Result := perform (.bcc off) bccRule s

/-- 0xB0 BCS relative (R226). -/
def execBcs (off : Byte) (s : State) : Result := perform (.bcs off) bcsRule s

/-- 0xD0 BNE relative (R227). -/
def execBne (off : Byte) (s : State) : Result := perform (.bne off) bneRule s

/-- 0xF0 BEQ relative (R228). -/
def execBeq (off : Byte) (s : State) : Result := perform (.beq off) beqRule s

/-- 0x4C JMP absolute (R229). -/
def execJmpAbs (addr : Addr) (s : State) : Result := perform (.jmpAbs addr) jmpRule s

/-- 0x6C JMP indirect (R229). -/
def execJmpInd (ptr : Addr) (s : State) : Result := perform (.jmpInd ptr) jmpRule s

/-- 0x20 JSR absolute (R230). -/
def execJsrAbs (addr : Addr) (s : State) : Result := perform (.jsrAbs addr) jsrRule s

/-- 0x60 RTS implied (R231). -/
def execRts (s : State) : Result := perform .rts rtsRule s

/-- 0x40 RTI implied (R232). -/
def execRti (s : State) : Result := perform .rti rtiRule s

/-- 0x00 BRK implied (R233). -/
def execBrk (s : State) : Result := perform .brk brkRule s

/-- 0xEA NOP implied (R234). -/
def execNop (s : State) : Result := perform .nop nopRule s

/-- 0x18 CLC implied (R235). -/
def execClc (s : State) : Result := perform .clc clcRule s

/-- 0x38 SEC implied (R236). -/
def execSec (s : State) : Result := perform .sec secRule s

/-- 0x58 CLI implied (R237). -/
def execCli (s : State) : Result := perform .cli cliRule s

/-- 0x78 SEI implied (R238). -/
def execSei (s : State) : Result := perform .sei seiRule s

/-- 0xB8 CLV implied (R239). -/
def execClv (s : State) : Result := perform .clv clvRule s

/-- 0xD8 CLD implied (R240). -/
def execCld (s : State) : Result := perform .cld cldRule s

/-- 0xF8 SED implied (R241). -/
def execSed (s : State) : Result := perform .sed sedRule s

end Sys2Proof.Machine
end

