-- ==== Sys2Proof/Machine/Illegal.lean ====
section
/-! DEFINITION. 45_illegal.md (R260 to R274): the stable undocumented opcodes; and the unmapped bytes (30_encoding.md R105,
R106).
First each mnemonic's rule, then one meaning per row of the opcode table. -/

namespace Sys2Proof.Machine

/-- SLO (R261): shift left memory, then OR into A. -/
def sloRule : Rule := fun o s =>
  let rc := asl8 (readOperand s o)
  let v := s.a ||| rc.1
  (((writeOperand s rc.1 o).setFlag .c rc.2).setA v).setNZ v

/-- RLA (R262): rotate left memory, then AND into A. -/
def rlaRule : Rule := fun o s =>
  let rc := rol8 (readOperand s o) (s.flag .c)
  let v := s.a &&& rc.1
  (((writeOperand s rc.1 o).setFlag .c rc.2).setA v).setNZ v

/-- SRE (R263): shift right memory, then EOR into A. -/
def sreRule : Rule := fun o s =>
  let rc := lsr8 (readOperand s o)
  let v := s.a ^^^ rc.1
  (((writeOperand s rc.1 o).setFlag .c rc.2).setA v).setNZ v

/-- RRA (R264): rotate right memory, then add it to A with the carry the rotate shifts out. -/
def rraRule : Rule := fun o s =>
  let rc := ror8 (readOperand s o) (s.flag .c)
  let t := (writeOperand s rc.1 o).setFlag .c rc.2
  t.setAlu (t.aluAdd rc.1)

/-- SAX (R265): `WriteOperand(opnd, A & X)`. -/
def saxRule : Rule := fun o s => writeOperand s (s.a &&& s.x) o

/-- LAX (R266): `m <- ReadOperand(opnd); A <- m; X <- m; SetNZ(m)`. -/
def laxRule : Rule := fun o s => let m := readOperand s o; ((s.setA m).setX m).setNZ m

/-- DCP (R267): decrement memory, then compare with A. -/
def dcpRule : Rule := fun o s => let r := readOperand s o - 1; (writeOperand s r o).compare s.a r

/-- ISC (R268): increment memory, then subtract it from A with borrow. -/
def iscRule : Rule := fun o s =>
  let r := readOperand s o + 1
  let t := writeOperand s r o
  t.setAlu (t.aluSub r)

/-- ANC (R269): `A <- A & v; SetNZ(A); P.C <- A[7]`. -/
def ancRule : Rule := fun o s =>
  let v := s.a &&& readOperand s o
  ((s.setA v).setNZ v).setFlag .c (v.getLsbD 7)

/-- ALR (R270): `(r, c') <- LSR8(A & v); A <- r; P.C <- c'; SetNZ(A)`. -/
def alrRule : Rule := fun o s =>
  let rc := lsr8 (s.a &&& readOperand s o)
  ((s.setA rc.1).setFlag .c rc.2).setNZ rc.1

/-- ARR (R271), binary: `r <- ((A & v) >> 1) | (P.C << 7)`; C is bit 6 of r, V is bit 6 XOR bit 5. -/
def arrRule : Rule := fun o s =>
  let r := (ror8 (s.a &&& readOperand s o) (s.flag .c)).1
  (((s.setA r).setNZ r).setFlag .c (r.getLsbD 6)).setFlag .v (r.getLsbD 6 ^^ r.getLsbD 5)

/-- SBX (R272): `t <- A & X; P.C <- (t >= v); X <- (t - v) mod 2^8; SetNZ(X)`. -/
def sbxRule : Rule := fun o s =>
  let t := s.a &&& s.x
  let v := readOperand s o
  ((s.setFlag .c (decide (t.toNat ≥ v.toNat))).setX (t - v)).setNZ (t - v)

/-- NOP, illegal forms (R274): the operand bytes are consumed, the read has no effect (R51). -/
def illegalNopRule : Rule := fun _ s => s

/-- 0x03 SLO (indirect,X) (R261). -/
def execSloIndX (zp : Byte) (s : State) : Result := perform (.sloIndX zp) sloRule s

/-- 0x07 SLO zero page (R261). -/
def execSloZp (zp : Byte) (s : State) : Result := perform (.sloZp zp) sloRule s

/-- 0x0F SLO absolute (R261). -/
def execSloAbs (addr : Addr) (s : State) : Result := perform (.sloAbs addr) sloRule s

/-- 0x13 SLO (indirect),Y (R261). -/
def execSloIndY (zp : Byte) (s : State) : Result := perform (.sloIndY zp) sloRule s

/-- 0x17 SLO zero page,X (R261). -/
def execSloZpX (zp : Byte) (s : State) : Result := perform (.sloZpX zp) sloRule s

/-- 0x1B SLO absolute,Y (R261). -/
def execSloAbsY (addr : Addr) (s : State) : Result := perform (.sloAbsY addr) sloRule s

/-- 0x1F SLO absolute,X (R261). -/
def execSloAbsX (addr : Addr) (s : State) : Result := perform (.sloAbsX addr) sloRule s

/-- 0x23 RLA (indirect,X) (R262). -/
def execRlaIndX (zp : Byte) (s : State) : Result := perform (.rlaIndX zp) rlaRule s

/-- 0x27 RLA zero page (R262). -/
def execRlaZp (zp : Byte) (s : State) : Result := perform (.rlaZp zp) rlaRule s

/-- 0x2F RLA absolute (R262). -/
def execRlaAbs (addr : Addr) (s : State) : Result := perform (.rlaAbs addr) rlaRule s

/-- 0x33 RLA (indirect),Y (R262). -/
def execRlaIndY (zp : Byte) (s : State) : Result := perform (.rlaIndY zp) rlaRule s

/-- 0x37 RLA zero page,X (R262). -/
def execRlaZpX (zp : Byte) (s : State) : Result := perform (.rlaZpX zp) rlaRule s

/-- 0x3B RLA absolute,Y (R262). -/
def execRlaAbsY (addr : Addr) (s : State) : Result := perform (.rlaAbsY addr) rlaRule s

/-- 0x3F RLA absolute,X (R262). -/
def execRlaAbsX (addr : Addr) (s : State) : Result := perform (.rlaAbsX addr) rlaRule s

/-- 0x43 SRE (indirect,X) (R263). -/
def execSreIndX (zp : Byte) (s : State) : Result := perform (.sreIndX zp) sreRule s

/-- 0x47 SRE zero page (R263). -/
def execSreZp (zp : Byte) (s : State) : Result := perform (.sreZp zp) sreRule s

/-- 0x4F SRE absolute (R263). -/
def execSreAbs (addr : Addr) (s : State) : Result := perform (.sreAbs addr) sreRule s

/-- 0x53 SRE (indirect),Y (R263). -/
def execSreIndY (zp : Byte) (s : State) : Result := perform (.sreIndY zp) sreRule s

/-- 0x57 SRE zero page,X (R263). -/
def execSreZpX (zp : Byte) (s : State) : Result := perform (.sreZpX zp) sreRule s

/-- 0x5B SRE absolute,Y (R263). -/
def execSreAbsY (addr : Addr) (s : State) : Result := perform (.sreAbsY addr) sreRule s

/-- 0x5F SRE absolute,X (R263). -/
def execSreAbsX (addr : Addr) (s : State) : Result := perform (.sreAbsX addr) sreRule s

/-- 0x63 RRA (indirect,X) (R264). -/
def execRraIndX (zp : Byte) (s : State) : Result := perform (.rraIndX zp) rraRule s

/-- 0x67 RRA zero page (R264). -/
def execRraZp (zp : Byte) (s : State) : Result := perform (.rraZp zp) rraRule s

/-- 0x6F RRA absolute (R264). -/
def execRraAbs (addr : Addr) (s : State) : Result := perform (.rraAbs addr) rraRule s

/-- 0x73 RRA (indirect),Y (R264). -/
def execRraIndY (zp : Byte) (s : State) : Result := perform (.rraIndY zp) rraRule s

/-- 0x77 RRA zero page,X (R264). -/
def execRraZpX (zp : Byte) (s : State) : Result := perform (.rraZpX zp) rraRule s

/-- 0x7B RRA absolute,Y (R264). -/
def execRraAbsY (addr : Addr) (s : State) : Result := perform (.rraAbsY addr) rraRule s

/-- 0x7F RRA absolute,X (R264). -/
def execRraAbsX (addr : Addr) (s : State) : Result := perform (.rraAbsX addr) rraRule s

/-- 0x83 SAX (indirect,X) (R265). -/
def execSaxIndX (zp : Byte) (s : State) : Result := perform (.saxIndX zp) saxRule s

/-- 0x87 SAX zero page (R265). -/
def execSaxZp (zp : Byte) (s : State) : Result := perform (.saxZp zp) saxRule s

/-- 0x8F SAX absolute (R265). -/
def execSaxAbs (addr : Addr) (s : State) : Result := perform (.saxAbs addr) saxRule s

/-- 0x97 SAX zero page,Y (R265). -/
def execSaxZpY (zp : Byte) (s : State) : Result := perform (.saxZpY zp) saxRule s

/-- 0xA3 LAX (indirect,X) (R266). -/
def execLaxIndX (zp : Byte) (s : State) : Result := perform (.laxIndX zp) laxRule s

/-- 0xA7 LAX zero page (R266). -/
def execLaxZp (zp : Byte) (s : State) : Result := perform (.laxZp zp) laxRule s

/-- 0xAF LAX absolute (R266). -/
def execLaxAbs (addr : Addr) (s : State) : Result := perform (.laxAbs addr) laxRule s

/-- 0xB3 LAX (indirect),Y (R266). -/
def execLaxIndY (zp : Byte) (s : State) : Result := perform (.laxIndY zp) laxRule s

/-- 0xB7 LAX zero page,Y (R266). -/
def execLaxZpY (zp : Byte) (s : State) : Result := perform (.laxZpY zp) laxRule s

/-- 0xBF LAX absolute,Y (R266). -/
def execLaxAbsY (addr : Addr) (s : State) : Result := perform (.laxAbsY addr) laxRule s

/-- 0xC3 DCP (indirect,X) (R267). -/
def execDcpIndX (zp : Byte) (s : State) : Result := perform (.dcpIndX zp) dcpRule s

/-- 0xC7 DCP zero page (R267). -/
def execDcpZp (zp : Byte) (s : State) : Result := perform (.dcpZp zp) dcpRule s

/-- 0xCF DCP absolute (R267). -/
def execDcpAbs (addr : Addr) (s : State) : Result := perform (.dcpAbs addr) dcpRule s

/-- 0xD3 DCP (indirect),Y (R267). -/
def execDcpIndY (zp : Byte) (s : State) : Result := perform (.dcpIndY zp) dcpRule s

/-- 0xD7 DCP zero page,X (R267). -/
def execDcpZpX (zp : Byte) (s : State) : Result := perform (.dcpZpX zp) dcpRule s

/-- 0xDB DCP absolute,Y (R267). -/
def execDcpAbsY (addr : Addr) (s : State) : Result := perform (.dcpAbsY addr) dcpRule s

/-- 0xDF DCP absolute,X (R267). -/
def execDcpAbsX (addr : Addr) (s : State) : Result := perform (.dcpAbsX addr) dcpRule s

/-- 0xE3 ISC (indirect,X) (R268). -/
def execIscIndX (zp : Byte) (s : State) : Result := perform (.iscIndX zp) iscRule s

/-- 0xE7 ISC zero page (R268). -/
def execIscZp (zp : Byte) (s : State) : Result := perform (.iscZp zp) iscRule s

/-- 0xEF ISC absolute (R268). -/
def execIscAbs (addr : Addr) (s : State) : Result := perform (.iscAbs addr) iscRule s

/-- 0xF3 ISC (indirect),Y (R268). -/
def execIscIndY (zp : Byte) (s : State) : Result := perform (.iscIndY zp) iscRule s

/-- 0xF7 ISC zero page,X (R268). -/
def execIscZpX (zp : Byte) (s : State) : Result := perform (.iscZpX zp) iscRule s

/-- 0xFB ISC absolute,Y (R268). -/
def execIscAbsY (addr : Addr) (s : State) : Result := perform (.iscAbsY addr) iscRule s

/-- 0xFF ISC absolute,X (R268). -/
def execIscAbsX (addr : Addr) (s : State) : Result := perform (.iscAbsX addr) iscRule s

/-- 0x0B ANC immediate (R269). -/
def execAncImm0B (v : Byte) (s : State) : Result := perform (.ancImm0B v) ancRule s

/-- 0x2B ANC immediate (R269). -/
def execAncImm2B (v : Byte) (s : State) : Result := perform (.ancImm2B v) ancRule s

/-- 0x4B ALR immediate (R270). -/
def execAlrImm (v : Byte) (s : State) : Result := perform (.alrImm v) alrRule s

/-- 0x6B ARR immediate (R271). -/
def execArrImm (v : Byte) (s : State) : Result := perform (.arrImm v) arrRule s

/-- 0xCB SBX immediate (R272). -/
def execSbxImm (v : Byte) (s : State) : Result := perform (.sbxImm v) sbxRule s

/-- 0xEB SBC immediate (R273). -/
def execUsbcImm (v : Byte) (s : State) : Result := perform (.usbcImm v) sbcRule s

/-- 0x04 NOP zero page (R274). -/
def execNopZp04 (zp : Byte) (s : State) : Result := perform (.nopZp04 zp) illegalNopRule s

/-- 0x0C NOP absolute (R274). -/
def execNopAbs0C (addr : Addr) (s : State) : Result := perform (.nopAbs0C addr) illegalNopRule s

/-- 0x14 NOP zero page,X (R274). -/
def execNopZpX14 (zp : Byte) (s : State) : Result := perform (.nopZpX14 zp) illegalNopRule s

/-- 0x1A NOP implied (R274). -/
def execNopImp1A (s : State) : Result := perform .nopImp1A illegalNopRule s

/-- 0x1C NOP absolute,X (R274). -/
def execNopAbsX1C (addr : Addr) (s : State) : Result := perform (.nopAbsX1C addr) illegalNopRule s

/-- 0x34 NOP zero page,X (R274). -/
def execNopZpX34 (zp : Byte) (s : State) : Result := perform (.nopZpX34 zp) illegalNopRule s

/-- 0x3A NOP implied (R274). -/
def execNopImp3A (s : State) : Result := perform .nopImp3A illegalNopRule s

/-- 0x3C NOP absolute,X (R274). -/
def execNopAbsX3C (addr : Addr) (s : State) : Result := perform (.nopAbsX3C addr) illegalNopRule s

/-- 0x44 NOP zero page (R274). -/
def execNopZp44 (zp : Byte) (s : State) : Result := perform (.nopZp44 zp) illegalNopRule s

/-- 0x54 NOP zero page,X (R274). -/
def execNopZpX54 (zp : Byte) (s : State) : Result := perform (.nopZpX54 zp) illegalNopRule s

/-- 0x5A NOP implied (R274). -/
def execNopImp5A (s : State) : Result := perform .nopImp5A illegalNopRule s

/-- 0x5C NOP absolute,X (R274). -/
def execNopAbsX5C (addr : Addr) (s : State) : Result := perform (.nopAbsX5C addr) illegalNopRule s

/-- 0x64 NOP zero page (R274). -/
def execNopZp64 (zp : Byte) (s : State) : Result := perform (.nopZp64 zp) illegalNopRule s

/-- 0x74 NOP zero page,X (R274). -/
def execNopZpX74 (zp : Byte) (s : State) : Result := perform (.nopZpX74 zp) illegalNopRule s

/-- 0x7A NOP implied (R274). -/
def execNopImp7A (s : State) : Result := perform .nopImp7A illegalNopRule s

/-- 0x7C NOP absolute,X (R274). -/
def execNopAbsX7C (addr : Addr) (s : State) : Result := perform (.nopAbsX7C addr) illegalNopRule s

/-- 0x80 NOP immediate (R274). -/
def execNopImm80 (v : Byte) (s : State) : Result := perform (.nopImm80 v) illegalNopRule s

/-- 0x82 NOP immediate (R274). -/
def execNopImm82 (v : Byte) (s : State) : Result := perform (.nopImm82 v) illegalNopRule s

/-- 0x89 NOP immediate (R274). -/
def execNopImm89 (v : Byte) (s : State) : Result := perform (.nopImm89 v) illegalNopRule s

/-- 0xC2 NOP immediate (R274). -/
def execNopImmC2 (v : Byte) (s : State) : Result := perform (.nopImmC2 v) illegalNopRule s

/-- 0xD4 NOP zero page,X (R274). -/
def execNopZpXD4 (zp : Byte) (s : State) : Result := perform (.nopZpXD4 zp) illegalNopRule s

/-- 0xDA NOP implied (R274). -/
def execNopImpDA (s : State) : Result := perform .nopImpDA illegalNopRule s

/-- 0xDC NOP absolute,X (R274). -/
def execNopAbsXDC (addr : Addr) (s : State) : Result := perform (.nopAbsXDC addr) illegalNopRule s

/-- 0xE2 NOP immediate (R274). -/
def execNopImmE2 (v : Byte) (s : State) : Result := perform (.nopImmE2 v) illegalNopRule s

/-- 0xF4 NOP zero page,X (R274). -/
def execNopZpXF4 (zp : Byte) (s : State) : Result := perform (.nopZpXF4 zp) illegalNopRule s

/-- 0xFA NOP implied (R274). -/
def execNopImpFA (s : State) : Result := perform .nopImpFA illegalNopRule s

/-- 0xFC NOP absolute,X (R274). -/
def execNopAbsXFC (addr : Addr) (s : State) : Result := perform (.nopAbsXFC addr) illegalNopRule s

/-- The twelve processor-halt opcodes, unmapped (R105). -/
def execJam (op : JamOpcode) (s : State) : Result := performUnmapped (.jam op) s

/-- 0x8B ANE, unmapped (R106). -/
def execAne8B (s : State) : Result := performUnmapped .ane8B s

/-- 0xAB LXA, unmapped (R106). -/
def execLxaAB (s : State) : Result := performUnmapped .lxaAB s

/-- 0x93 and 0x9F SHA, unmapped (R106). -/
def execSha (op : ShaOpcode) (s : State) : Result := performUnmapped (.sha op) s

/-- 0x9B TAS, unmapped (R106). -/
def execTas9B (s : State) : Result := performUnmapped .tas9B s

/-- 0x9C SHY, unmapped (R106). -/
def execShy9C (s : State) : Result := performUnmapped .shy9C s

/-- 0x9E SHX, unmapped (R106). -/
def execShx9E (s : State) : Result := performUnmapped .shx9E s

/-- 0xBB LAS, unmapped (R106). -/
def execLasBB (s : State) : Result := performUnmapped .lasBB s

end Sys2Proof.Machine
end

