-- ==== Sys2Proof/Machine/LoadStore.lean ====
section
/-! DEFINITION. 40_load_store.md (R130 to R136): loads and stores.
First each mnemonic's rule, then one meaning per row of the opcode table. -/

namespace Sys2Proof.Machine

/-- LDA (R131): `A <- ReadOperand(opnd); SetNZ(A)`. -/
def ldaRule : Rule := fun o s => let v := readOperand s o; (s.setA v).setNZ v

/-- LDX (R132): `X <- ReadOperand(opnd); SetNZ(X)`. -/
def ldxRule : Rule := fun o s => let v := readOperand s o; (s.setX v).setNZ v

/-- LDY (R133): `Y <- ReadOperand(opnd); SetNZ(Y)`. -/
def ldyRule : Rule := fun o s => let v := readOperand s o; (s.setY v).setNZ v

/-- STA (R134): `WriteOperand(opnd, A)`. -/
def staRule : Rule := fun o s => writeOperand s s.a o

/-- STX (R135): `MemWrite(ea, 1, X)`. -/
def stxRule : Rule := fun o s => writeOperand s s.x o

/-- STY (R136): `MemWrite(ea, 1, Y)`. -/
def styRule : Rule := fun o s => writeOperand s s.y o

/-- 0xA1 LDA (indirect,X) (R131). -/
def execLdaIndX (zp : Byte) (s : State) : Result := perform (.ldaIndX zp) ldaRule s

/-- 0xA5 LDA zero page (R131). -/
def execLdaZp (zp : Byte) (s : State) : Result := perform (.ldaZp zp) ldaRule s

/-- 0xA9 LDA immediate (R131). -/
def execLdaImm (v : Byte) (s : State) : Result := perform (.ldaImm v) ldaRule s

/-- 0xAD LDA absolute (R131). -/
def execLdaAbs (addr : Addr) (s : State) : Result := perform (.ldaAbs addr) ldaRule s

/-- 0xB1 LDA (indirect),Y (R131). -/
def execLdaIndY (zp : Byte) (s : State) : Result := perform (.ldaIndY zp) ldaRule s

/-- 0xB5 LDA zero page,X (R131). -/
def execLdaZpX (zp : Byte) (s : State) : Result := perform (.ldaZpX zp) ldaRule s

/-- 0xB9 LDA absolute,Y (R131). -/
def execLdaAbsY (addr : Addr) (s : State) : Result := perform (.ldaAbsY addr) ldaRule s

/-- 0xBD LDA absolute,X (R131). -/
def execLdaAbsX (addr : Addr) (s : State) : Result := perform (.ldaAbsX addr) ldaRule s

/-- 0xA2 LDX immediate (R132). -/
def execLdxImm (v : Byte) (s : State) : Result := perform (.ldxImm v) ldxRule s

/-- 0xA6 LDX zero page (R132). -/
def execLdxZp (zp : Byte) (s : State) : Result := perform (.ldxZp zp) ldxRule s

/-- 0xAE LDX absolute (R132). -/
def execLdxAbs (addr : Addr) (s : State) : Result := perform (.ldxAbs addr) ldxRule s

/-- 0xB6 LDX zero page,Y (R132). -/
def execLdxZpY (zp : Byte) (s : State) : Result := perform (.ldxZpY zp) ldxRule s

/-- 0xBE LDX absolute,Y (R132). -/
def execLdxAbsY (addr : Addr) (s : State) : Result := perform (.ldxAbsY addr) ldxRule s

/-- 0xA0 LDY immediate (R133). -/
def execLdyImm (v : Byte) (s : State) : Result := perform (.ldyImm v) ldyRule s

/-- 0xA4 LDY zero page (R133). -/
def execLdyZp (zp : Byte) (s : State) : Result := perform (.ldyZp zp) ldyRule s

/-- 0xAC LDY absolute (R133). -/
def execLdyAbs (addr : Addr) (s : State) : Result := perform (.ldyAbs addr) ldyRule s

/-- 0xB4 LDY zero page,X (R133). -/
def execLdyZpX (zp : Byte) (s : State) : Result := perform (.ldyZpX zp) ldyRule s

/-- 0xBC LDY absolute,X (R133). -/
def execLdyAbsX (addr : Addr) (s : State) : Result := perform (.ldyAbsX addr) ldyRule s

/-- 0x81 STA (indirect,X) (R134). -/
def execStaIndX (zp : Byte) (s : State) : Result := perform (.staIndX zp) staRule s

/-- 0x85 STA zero page (R134). -/
def execStaZp (zp : Byte) (s : State) : Result := perform (.staZp zp) staRule s

/-- 0x8D STA absolute (R134). -/
def execStaAbs (addr : Addr) (s : State) : Result := perform (.staAbs addr) staRule s

/-- 0x91 STA (indirect),Y (R134). -/
def execStaIndY (zp : Byte) (s : State) : Result := perform (.staIndY zp) staRule s

/-- 0x95 STA zero page,X (R134). -/
def execStaZpX (zp : Byte) (s : State) : Result := perform (.staZpX zp) staRule s

/-- 0x99 STA absolute,Y (R134). -/
def execStaAbsY (addr : Addr) (s : State) : Result := perform (.staAbsY addr) staRule s

/-- 0x9D STA absolute,X (R134). -/
def execStaAbsX (addr : Addr) (s : State) : Result := perform (.staAbsX addr) staRule s

/-- 0x86 STX zero page (R135). -/
def execStxZp (zp : Byte) (s : State) : Result := perform (.stxZp zp) stxRule s

/-- 0x8E STX absolute (R135). -/
def execStxAbs (addr : Addr) (s : State) : Result := perform (.stxAbs addr) stxRule s

/-- 0x96 STX zero page,Y (R135). -/
def execStxZpY (zp : Byte) (s : State) : Result := perform (.stxZpY zp) stxRule s

/-- 0x84 STY zero page (R136). -/
def execStyZp (zp : Byte) (s : State) : Result := perform (.styZp zp) styRule s

/-- 0x8C STY absolute (R136). -/
def execStyAbs (addr : Addr) (s : State) : Result := perform (.styAbs addr) styRule s

/-- 0x94 STY zero page,X (R136). -/
def execStyZpX (zp : Byte) (s : State) : Result := perform (.styZpX zp) styRule s

end Sys2Proof.Machine
end

