-- ==== Sys2Proof/Machine/Logic.lean ====
section
/-! DEFINITION. 43_logic_shift.md (R200 to R208): logic, bit test, shifts and rotates.
First each mnemonic's rule, then one meaning per row of the opcode table. -/

namespace Sys2Proof.Machine

/-- AND (R201): `A <- A & ReadOperand(opnd); SetNZ(A)`. -/
def andRule : Rule := fun o s => let v := s.a &&& readOperand s o; (s.setA v).setNZ v

/-- ORA (R202): `A <- A | ReadOperand(opnd); SetNZ(A)`. -/
def oraRule : Rule := fun o s => let v := s.a ||| readOperand s o; (s.setA v).setNZ v

/-- EOR (R203): `A <- A ^ ReadOperand(opnd); SetNZ(A)`. -/
def eorRule : Rule := fun o s => let v := s.a ^^^ readOperand s o; (s.setA v).setNZ v

/-- BIT (R204): Z from `A & m`, N and V from bits 7 and 6 of `m`. -/
def bitRule : Rule := fun o s =>
  let m := readOperand s o
  ((s.setFlag .z ((s.a &&& m) == 0)).setFlag .n (m.getLsbD 7)).setFlag .v (m.getLsbD 6)

/-- The ending of a shift or rotate with result and carry `rc`: `WriteOperand(opnd, r); P.C <- c'; SetNZ(r)`
(R205 to R208). -/
def State.writeShifted (s : State) (o : Operand) (rc : Byte × Bool) : State :=
  ((writeOperand s rc.1 o).setFlag .c rc.2).setNZ rc.1

/-- ASL (R205). -/
def aslRule : Rule := fun o s => s.writeShifted o (asl8 (readOperand s o))

/-- LSR (R206). -/
def lsrRule : Rule := fun o s => s.writeShifted o (lsr8 (readOperand s o))

/-- ROL (R207). -/
def rolRule : Rule := fun o s => s.writeShifted o (rol8 (readOperand s o) (s.flag .c))

/-- ROR (R208). -/
def rorRule : Rule := fun o s => s.writeShifted o (ror8 (readOperand s o) (s.flag .c))

/-- 0x21 AND (indirect,X) (R201). -/
def execAndIndX (zp : Byte) (s : State) : Result := perform (.andIndX zp) andRule s

/-- 0x25 AND zero page (R201). -/
def execAndZp (zp : Byte) (s : State) : Result := perform (.andZp zp) andRule s

/-- 0x29 AND immediate (R201). -/
def execAndImm (v : Byte) (s : State) : Result := perform (.andImm v) andRule s

/-- 0x2D AND absolute (R201). -/
def execAndAbs (addr : Addr) (s : State) : Result := perform (.andAbs addr) andRule s

/-- 0x31 AND (indirect),Y (R201). -/
def execAndIndY (zp : Byte) (s : State) : Result := perform (.andIndY zp) andRule s

/-- 0x35 AND zero page,X (R201). -/
def execAndZpX (zp : Byte) (s : State) : Result := perform (.andZpX zp) andRule s

/-- 0x39 AND absolute,Y (R201). -/
def execAndAbsY (addr : Addr) (s : State) : Result := perform (.andAbsY addr) andRule s

/-- 0x3D AND absolute,X (R201). -/
def execAndAbsX (addr : Addr) (s : State) : Result := perform (.andAbsX addr) andRule s

/-- 0x01 ORA (indirect,X) (R202). -/
def execOraIndX (zp : Byte) (s : State) : Result := perform (.oraIndX zp) oraRule s

/-- 0x05 ORA zero page (R202). -/
def execOraZp (zp : Byte) (s : State) : Result := perform (.oraZp zp) oraRule s

/-- 0x09 ORA immediate (R202). -/
def execOraImm (v : Byte) (s : State) : Result := perform (.oraImm v) oraRule s

/-- 0x0D ORA absolute (R202). -/
def execOraAbs (addr : Addr) (s : State) : Result := perform (.oraAbs addr) oraRule s

/-- 0x11 ORA (indirect),Y (R202). -/
def execOraIndY (zp : Byte) (s : State) : Result := perform (.oraIndY zp) oraRule s

/-- 0x15 ORA zero page,X (R202). -/
def execOraZpX (zp : Byte) (s : State) : Result := perform (.oraZpX zp) oraRule s

/-- 0x19 ORA absolute,Y (R202). -/
def execOraAbsY (addr : Addr) (s : State) : Result := perform (.oraAbsY addr) oraRule s

/-- 0x1D ORA absolute,X (R202). -/
def execOraAbsX (addr : Addr) (s : State) : Result := perform (.oraAbsX addr) oraRule s

/-- 0x41 EOR (indirect,X) (R203). -/
def execEorIndX (zp : Byte) (s : State) : Result := perform (.eorIndX zp) eorRule s

/-- 0x45 EOR zero page (R203). -/
def execEorZp (zp : Byte) (s : State) : Result := perform (.eorZp zp) eorRule s

/-- 0x49 EOR immediate (R203). -/
def execEorImm (v : Byte) (s : State) : Result := perform (.eorImm v) eorRule s

/-- 0x4D EOR absolute (R203). -/
def execEorAbs (addr : Addr) (s : State) : Result := perform (.eorAbs addr) eorRule s

/-- 0x51 EOR (indirect),Y (R203). -/
def execEorIndY (zp : Byte) (s : State) : Result := perform (.eorIndY zp) eorRule s

/-- 0x55 EOR zero page,X (R203). -/
def execEorZpX (zp : Byte) (s : State) : Result := perform (.eorZpX zp) eorRule s

/-- 0x59 EOR absolute,Y (R203). -/
def execEorAbsY (addr : Addr) (s : State) : Result := perform (.eorAbsY addr) eorRule s

/-- 0x5D EOR absolute,X (R203). -/
def execEorAbsX (addr : Addr) (s : State) : Result := perform (.eorAbsX addr) eorRule s

/-- 0x24 BIT zero page (R204). -/
def execBitZp (zp : Byte) (s : State) : Result := perform (.bitZp zp) bitRule s

/-- 0x2C BIT absolute (R204). -/
def execBitAbs (addr : Addr) (s : State) : Result := perform (.bitAbs addr) bitRule s

/-- 0x06 ASL zero page (R205). -/
def execAslZp (zp : Byte) (s : State) : Result := perform (.aslZp zp) aslRule s

/-- 0x0A ASL accumulator (R205). -/
def execAslAcc (s : State) : Result := perform .aslAcc aslRule s

/-- 0x0E ASL absolute (R205). -/
def execAslAbs (addr : Addr) (s : State) : Result := perform (.aslAbs addr) aslRule s

/-- 0x16 ASL zero page,X (R205). -/
def execAslZpX (zp : Byte) (s : State) : Result := perform (.aslZpX zp) aslRule s

/-- 0x1E ASL absolute,X (R205). -/
def execAslAbsX (addr : Addr) (s : State) : Result := perform (.aslAbsX addr) aslRule s

/-- 0x46 LSR zero page (R206). -/
def execLsrZp (zp : Byte) (s : State) : Result := perform (.lsrZp zp) lsrRule s

/-- 0x4A LSR accumulator (R206). -/
def execLsrAcc (s : State) : Result := perform .lsrAcc lsrRule s

/-- 0x4E LSR absolute (R206). -/
def execLsrAbs (addr : Addr) (s : State) : Result := perform (.lsrAbs addr) lsrRule s

/-- 0x56 LSR zero page,X (R206). -/
def execLsrZpX (zp : Byte) (s : State) : Result := perform (.lsrZpX zp) lsrRule s

/-- 0x5E LSR absolute,X (R206). -/
def execLsrAbsX (addr : Addr) (s : State) : Result := perform (.lsrAbsX addr) lsrRule s

/-- 0x26 ROL zero page (R207). -/
def execRolZp (zp : Byte) (s : State) : Result := perform (.rolZp zp) rolRule s

/-- 0x2A ROL accumulator (R207). -/
def execRolAcc (s : State) : Result := perform .rolAcc rolRule s

/-- 0x2E ROL absolute (R207). -/
def execRolAbs (addr : Addr) (s : State) : Result := perform (.rolAbs addr) rolRule s

/-- 0x36 ROL zero page,X (R207). -/
def execRolZpX (zp : Byte) (s : State) : Result := perform (.rolZpX zp) rolRule s

/-- 0x3E ROL absolute,X (R207). -/
def execRolAbsX (addr : Addr) (s : State) : Result := perform (.rolAbsX addr) rolRule s

/-- 0x66 ROR zero page (R208). -/
def execRorZp (zp : Byte) (s : State) : Result := perform (.rorZp zp) rorRule s

/-- 0x6A ROR accumulator (R208). -/
def execRorAcc (s : State) : Result := perform .rorAcc rorRule s

/-- 0x6E ROR absolute (R208). -/
def execRorAbs (addr : Addr) (s : State) : Result := perform (.rorAbs addr) rorRule s

/-- 0x76 ROR zero page,X (R208). -/
def execRorZpX (zp : Byte) (s : State) : Result := perform (.rorZpX zp) rorRule s

/-- 0x7E ROR absolute,X (R208). -/
def execRorAbsX (addr : Addr) (s : State) : Result := perform (.rorAbsX addr) rorRule s

end Sys2Proof.Machine
end

