-- ==== Sys2Proof/Machine/Transfer.lean ====
section
/-! DEFINITION. 41_transfer_stack.md (R149 to R159): register transfers and stack instructions.
First each mnemonic's rule, then one meaning per row of the opcode table. -/

namespace Sys2Proof.Machine

/-- TAX (R150): `X <- A; SetNZ(X)`. -/
def taxRule : Rule := fun _ s => (s.setX s.a).setNZ s.a

/-- TAY (R151): `Y <- A; SetNZ(Y)`. -/
def tayRule : Rule := fun _ s => (s.setY s.a).setNZ s.a

/-- TXA (R152): `A <- X; SetNZ(A)`. -/
def txaRule : Rule := fun _ s => (s.setA s.x).setNZ s.x

/-- TYA (R153): `A <- Y; SetNZ(A)`. -/
def tyaRule : Rule := fun _ s => (s.setA s.y).setNZ s.y

/-- TSX (R154): `X <- SP; SetNZ(X)`. -/
def tsxRule : Rule := fun _ s => (s.setX s.sp).setNZ s.sp

/-- TXS (R155): `SP <- X`, no flag. -/
def txsRule : Rule := fun _ s => s.setSp s.x

/-- PHA (R156): `Push(A)`. -/
def phaRule : Rule := fun _ s => s.push s.a

/-- PHP (R157): `Push(P | 0x30)`. -/
def phpRule : Rule := fun _ s => s.push (s.p ||| keptBits)

/-- PLA (R158): `A <- Pull(); SetNZ(A)`. -/
def plaRule : Rule := fun _ s => (s.pull.setA s.pulled).setNZ s.pulled

/-- PLP (R159): `p <- Pull(); P <- (p & 0xCF) | (P & 0x30)`. -/
def plpRule : Rule := fun _ s => s.pull.setP (pulledStatus s.pulled s.p)

/-- 0xAA TAX implied (R150). -/
def execTax (s : State) : Result := perform .tax taxRule s

/-- 0xA8 TAY implied (R151). -/
def execTay (s : State) : Result := perform .tay tayRule s

/-- 0x8A TXA implied (R152). -/
def execTxa (s : State) : Result := perform .txa txaRule s

/-- 0x98 TYA implied (R153). -/
def execTya (s : State) : Result := perform .tya tyaRule s

/-- 0xBA TSX implied (R154). -/
def execTsx (s : State) : Result := perform .tsx tsxRule s

/-- 0x9A TXS implied (R155). -/
def execTxs (s : State) : Result := perform .txs txsRule s

/-- 0x48 PHA implied (R156). -/
def execPha (s : State) : Result := perform .pha phaRule s

/-- 0x08 PHP implied (R157). -/
def execPhp (s : State) : Result := perform .php phpRule s

/-- 0x68 PLA implied (R158). -/
def execPla (s : State) : Result := perform .pla plaRule s

/-- 0x28 PLP implied (R159). -/
def execPlp (s : State) : Result := perform .plp plpRule s

end Sys2Proof.Machine
end

