-- ==== Sys2Proof/Machine/Step.lean ====
section
/-! DEFINITION. One step of the core (30_encoding.md R84), and where a test's instruction is put. -/

namespace Sys2Proof.Machine

/-- One step: enabled only when the engine runs (R84), it fetches the instruction at `PC` and runs it. In any other
status no step is enabled (R302, R303, R306, R317); DESIGN CHOICE (log 2): the model stops there. -/
def step (s : State) : Host.Outcome State Fault Refusal :=
  match s.status with
  | .running => exec s.fetched s
  | st => .fault (.notRunning st)

/-- `s` with the table word `w` (operand bytes zero above `nbits`) stored at `PC`, as the loader stores a program (R331),
and the engine started, as the host's start move does (R333). Log 5. -/
def State.withFetchWord (s : State) (nbits w : Nat) : State :=
  let stored := (wordBytes nbits w).zipIdx.foldl (fun t bk => t.write (s.pc + BitVec.ofNat 16 bk.2) bk.1) s
  { stored with status := .running }

end Sys2Proof.Machine
end

