-- ==== Sys2Proof/Machine/HostMoves.lean ====
section
/-! DEFINITION. Session bootstrap, the loader and the host's moves (70_reset_and_hazards.md R330 to R337). They stand
beside `step`: the host acts only between steps (log 4). -/

namespace Sys2Proof.Machine

/-- The loader: each pair of the image is one byte write, in list order, so a later pair wins (R331). -/
def loadImage (image : List (Addr × Byte)) (m : Memory) : Memory :=
  image.foldl (fun m av => Memory.write m av.1.toNat av.2) m

/-- The image of a byte string at an origin: byte `i` at `(origin + i) mod 2^16` (R331). -/
def imageAt (origin : Addr) (bytes : List Byte) : List (Addr × Byte) :=
  bytes.zipIdx.map fun bk => (origin + BitVec.ofNat 16 bk.2, bk.1)

/-- Session bootstrap for any parameters (R330, R41). -/
def bootstrap (params : Params) : State :=
  { State.reset with
    pc := params.start
    mem := loadImage params.image []
    policy := params.policy }

/-- The host's moves that change the state (R333 to R335). Reading back changes nothing (R336). -/
inductive HostMove where
  | start | stop | restart
  deriving DecidableEq, Repr

/-- The state after a host move, or none where the host has no such move (R337). -/
def hostMove (m : HostMove) (s : State) : Option State :=
  match m, s.status with
  | .start, .idle => some (s.setStatus .running)
  | .stop, .running => some (s.setStatus (.halted .hostStop))
  | .restart, .halted _ => some (s.setStatus .running)
  | _, _ => none

end Sys2Proof.Machine
end

