-- ==== Sys2Proof/Safety.lean ====
section
/-! DEFINITION. The terms claims use: when an instruction executes, the invariant of the machine, and the states a session
can reach. -/

namespace Sys2Proof.Machine

/-- The instruction is mapped and not refused, so its own rule runs (30_encoding.md R84, 60_exceptions.md R310). -/
def Executes (i : Instr) (s : State) : Prop :=
  i.mapped s.policy = true ∧ s.decimalRefused i.mnemonic = false

/-- What `status` records agrees with the registers: after BRK's halt `P.B` is set (R303); after a fault `PC` is past an
unmapped byte (R301, R302); after a refusal `PC` is at a refused one and `P.D` is set (R172, R306). -/
def StatusAgrees (s : State) : Prop :=
  match s.status with
  | .idle | .running | .halted .hostStop => True
  | .halted .brk => s.flag .b = true
  | .faulted opcode address => s.pc = address + 1 ∧ (decodeBytes opcode 0 0).mapped s.policy = false
  | .refused _ opcode address =>
    s.pc = address ∧ s.flag .d = true ∧ s.decimalRefused (decodeBytes opcode 0 0).mnemonic = true

/-- The invariant: memory is in its canonical form, bit 5 of `P` is 0 (R30), and `status` agrees with the registers. -/
def Inv (s : State) : Prop :=
  Memory.wf s.mem = true ∧ s.p.getLsbD 5 = false ∧ StatusAgrees s

/-- The states of a session: bootstrap, and from there the core's steps and the host's moves (70_reset_and_hazards.md
R330 to R339). -/
inductive Reachable (params : Params) : State → Prop where
  | boot : Reachable params (bootstrap params)
  | step {s t : State} : Reachable params s → Machine.step s = .next t → Reachable params t
  | host {s t : State} (m : HostMove) : Reachable params s → hostMove m s = some t → Reachable params t

end Sys2Proof.Machine
end

