-- ==== Sys2Proof/Certificates/Slice0/Obligations.lean ====
section
/-! DEFINITION. The statements for the provers. A docstring says which rule of spec/ a statement formalises; "the spec's
own choice D<n>" names a decision of 92_eei_decisions.md, "log <n>" the model's. `s.begun i` is `s` with `PC` past the
instruction and its cost charged (statement BegunAdvancesPcAndCharges says exactly what that is); `(s.resolved i).opnd`
is its operand (statements DirectModesResolve and IndexedAndIndirectModesResolve). An equation of states is a frame as
well: every field it does not name is unchanged. -/

open Sys2Proof Sys2Proof.Machine

/-! ### Encoding -/

/-- Decoding the encoding of any instruction, with any operand, gives it back and leaves the bytes after it
(30_encoding.md R80 to R82, R102). -/
def Obligations.DecodeEncodeRoundTrip : Prop :=
  ∀ (i : Instr) (rest : List Byte), decode (encode i ++ rest) = .ok (i, rest)

/-- A list of bytes decodes to an instruction only if it begins with that instruction's encoding: each word has one
meaning (R80, R81, R107). -/
def Obligations.DecodedBytesAreTheEncoding : Prop :=
  ∀ (bytes rest : List Byte) (i : Instr), decode bytes = .ok (i, rest) → bytes = encode i ++ rest

/-- Every opcode byte decodes to the row of that byte; 151 rows are legal (R103), 85 stable illegal (R104), and the
unmapped ones are exactly the twelve of R105 and the eight of R106. Which bytes beyond the legal ones are mapped is the
spec's own choice D6; that an unmapped byte, too, decodes to a term, that of its row, is the model's choice, log 10. -/
def Obligations.OpcodeByteSets : Prop :=
  let set (w : Nat) := (decodeBytes (BitVec.ofNat 8 w) 0 0).descriptor.set
  (∀ op b c : Byte, (decodeBytes op b c).opcode = op) ∧
  ((List.range 256).filter fun w => set w == .legal).length = 151 ∧
  ((List.range 256).filter fun w => set w == .illegal).length = 85 ∧
  ((List.range 256).filter fun w => set w == .unmapped) =
    [0x02, 0x12, 0x22, 0x32, 0x42, 0x52, 0x62, 0x72, 0x8B, 0x92, 0x93, 0x9B, 0x9C, 0x9E, 0x9F, 0xAB, 0xB2, 0xBB, 0xD2,
      0xF2]

/-- Words written out from the encoding lines of the instruction rules, one or more of every family, decode to the
instructions they stand for. -/
def Obligations.WordsDecodeAsTheRulesEncode : Prop :=
  decode [0xA9, 0x80] = .ok (.ldaImm 0x80, []) ∧ decode [0x9D, 0xFF, 0x02] = .ok (.staAbsX 0x02FF, []) ∧
  decode [0x9A] = .ok (.txs, []) ∧ decode [0x28] = .ok (.plp, []) ∧
  decode [0x71, 0x10] = .ok (.adcIndY 0x10, []) ∧ decode [0xCE, 0x00, 0x02] = .ok (.decAbs 0x0200, []) ∧
  decode [0x24, 0x10] = .ok (.bitZp 0x10, []) ∧ decode [0x6A] = .ok (.rorAcc, []) ∧
  decode [0xD0, 0xF9] = .ok (.bne 0xF9, []) ∧ decode [0x6C, 0xFF, 0x02] = .ok (.jmpInd 0x02FF, []) ∧
  decode [0x00] = .ok (.brk, []) ∧ decode [0xB7, 0x20] = .ok (.laxZpY 0x20, []) ∧
  decode [0xEB, 0x01] = .ok (.usbcImm 0x01, []) ∧ decode [0xF2] = .ok (.jam .xF2, [])

/-- R56: a 16-bit operand, a word of memory, the pointer of an indirect mode in page zero, and the pointer of JMP indirect
have the byte at the lower address as bits [7:0] and the next byte as bits [15:8]. Where the next byte is not at the next
address (the top of memory, the end of page zero, the end of the pointer's page) the spec chooses, D2, D3 and D4: those
three are in WordAccessWrapsAtTheTop and IndexedAndIndirectModesResolve. -/
def Obligations.WordsAreLittleEndian : Prop :=
  (∀ (op lo hi : Byte) (w : Addr),
    ((decodeBytes op lo hi).mode = .absolute w ∨ (decodeBytes op lo hi).mode = .absoluteX w ∨
      (decodeBytes op lo hi).mode = .absoluteY w ∨ (decodeBytes op lo hi).mode = .indirect w) →
    w.toNat = lo.toNat + 256 * hi.toNat) ∧
  ∀ s : State,
    let wordAt (a : Addr) : Nat := (s.read a).toNat + 256 * (s.read (a + 1)).toNat
    (∀ a : Addr, a ≠ 0xFFFF → (s.readWord a).toNat = wordAt a) ∧
    (∀ b : Byte, b ≠ 0xFF → (s.zeroPageWord b).toNat = wordAt (zeroPageAddr b)) ∧
    (∀ ptr : Addr, ptr.toNat % 256 ≠ 255 → (s.indirectWord ptr).toNat = wordAt ptr)

/-! ### The step -/

/-- When the engine runs and the bytes at `PC` decode to an instruction, the step is that instruction's `exec`, with
nothing added around it (R84). -/
def Obligations.StepRunsTheInstructionAtPc : Prop :=
  ∀ (s : State) (i : Instr) (rest : List Byte), s.status = .running →
    decode [s.read s.pc, s.read (s.pc + 1), s.read (s.pc + 2)] = .ok (i, rest) → step s = exec i s

/-- In a status other than `Running` no step is enabled (R84); that the model answers the fault `notRunning` there is the
model's choice, log 2. -/
def Obligations.NoStepUnlessRunning : Prop :=
  ∀ s : State, s.status ≠ .running → step s = .fault (.notRunning s.status)

/-- What stands before an instruction's own rule: `PC` goes past its bytes and `cycles` is charged the base cost, and 1
more exactly when the row is of the read class, in an absolute,X, absolute,Y or (indirect),Y mode, and the indexed
address is on another page than its base (R84, R86; which rows pay is the spec's own choice D12). -/
def Obligations.BegunAdvancesPcAndCharges : Prop :=
  ∀ (i : Instr) (s : State),
    let leaves (base : Addr) (index : Byte) : Prop := (base + index.setWidth 16).toNat / 256 ≠ base.toNat / 256
    let pays : Prop := i.descriptor.cls = .read ∧
      match i.mode with
      | .absoluteX w => leaves w s.x
      | .absoluteY w => leaves w s.y
      | .indirectY b => leaves (wordOfBytes (s.read (zeroPageAddr (b + 1))) (s.read (zeroPageAddr b))) s.y
      | _ => False
    let pc := s.pc + BitVec.ofNat 16 (encode i).length
    (pays → s.begun i = { s with pc := pc, cycles := s.cycles + i.descriptor.base + 1 }) ∧
    (¬ pays → s.begun i = { s with pc := pc, cycles := s.cycles + i.descriptor.base })

/-- R343: the base cost of every mapped row by class and mode, and of the implied, jump and branch instructions; the
illegal rows of the read class cost what the legal ones do (R102's table). -/
def Obligations.TimingSummaryByMode : Prop :=
  ∀ i : Instr,
    let d := i.descriptor
    (d.cls = .read →
      match d.mode with
      | .immediate _ => d.base = 2 ∧ d.penalty = false
      | .zeroPage _ => d.base = 3 ∧ d.penalty = false
      | .zeroPageX _ | .zeroPageY _ | .absolute _ => d.base = 4 ∧ d.penalty = false
      | .absoluteX _ | .absoluteY _ => d.base = 4 ∧ d.penalty = true
      | .indirectX _ => d.base = 6 ∧ d.penalty = false
      | .indirectY _ => d.base = 5 ∧ d.penalty = true
      | _ => False) ∧
    (d.cls = .write →
      match d.mode with
      | .zeroPage _ => d.base = 3
      | .zeroPageX _ | .zeroPageY _ | .absolute _ => d.base = 4
      | .absoluteX _ | .absoluteY _ => d.base = 5
      | .indirectX _ | .indirectY _ => d.base = 6
      | _ => False) ∧
    (d.cls = .rmw →
      match d.mode with
      | .accumulator => d.base = 2
      | .zeroPage _ => d.base = 5
      | .zeroPageX _ | .absolute _ => d.base = 6
      | .absoluteX _ => d.base = 7
      | .absoluteY _ => d.set = .illegal ∧ d.base = 7
      | .indirectX _ | .indirectY _ => d.set = .illegal ∧ d.base = 8
      | _ => False) ∧
    (d.cls = .other → d.mode = .implied → d.set ≠ .unmapped →
      d.base =
        match d.mnemonic with
        | .pha | .php => 3
        | .pla | .plp => 4
        | .rts | .rti => 6
        | .brk => 7
        | _ => 2) ∧
    (d.mnemonic = .jsr → d.base = 6) ∧
    (∀ w, d.mnemonic = .jmp → d.mode = .absolute w → d.base = 3) ∧
    (∀ w, d.mnemonic = .jmp → d.mode = .indirect w → d.base = 5) ∧
    (∀ s t : State, d.cls = .branch → exec i s = .next t →
      t.cycles = s.cycles + 2 ∨ t.cycles = s.cycles + 3 ∨ t.cycles = s.cycles + 4)

/-! ### Memory and the stack -/

/-- R51, R52: a byte write sets that byte, leaves every other byte and everything else unchanged. The canonical form is a
premise, which every reachable state meets (EveryReachableStateHasTheInvariant). -/
def Obligations.ByteWriteSetsOneByte : Prop :=
  ∀ (s : State) (a : Addr) (v : Byte), Memory.wf s.mem = true →
    (s.write a v).read a = v ∧ (∀ b : Addr, b ≠ a → (s.write a v).read b = s.read b) ∧
    s.write a v = { s with mem := (s.write a v).mem }

/-- The representation of memory (log 7): a byte write keeps the canonical form, and two memories in that form whose bytes
read alike are equal. -/
def Obligations.MemoryFormIsCanonical : Prop :=
  (∀ (m : Memory) (a : Addr) (v : Byte), Memory.wf m = true → Memory.wf (Memory.write m a.toNat v) = true) ∧
  (∀ m m' : Memory, Memory.wf m = true → Memory.wf m' = true →
    (∀ a : Addr, Memory.read m a.toNat = Memory.read m' a.toNat) → m = m')

/-- A word written at any address is read back, its high byte at the next address modulo 2^16, and no other byte changes;
at 0xFFFF the high byte is the one at 0x0000. The wrap is the spec's own choice D2. -/
def Obligations.WordAccessWrapsAtTheTop : Prop :=
  (∀ (s : State) (a v : Addr), Memory.wf s.mem = true →
    (s.writeWord a v).readWord a = v ∧
    ∀ b : Addr, b ≠ a → b ≠ a + 1 → (s.writeWord a v).read b = s.read b) ∧
  (∀ s : State, (s.readWord 0xFFFF).toNat = (s.read 0xFFFF).toNat + 256 * (s.read 0x0000).toNat)

/-- R60, R61, R62: a push writes the byte at `0x0100 + SP` and decrements `SP`; a pull increments `SP` and reads there;
both wrap within page 0x01; a pull right after a push returns the byte and restores `SP`. -/
def Obligations.PushAndPull : Prop :=
  ∀ (s : State) (v : Byte),
    (stackAddr s.sp).toNat = 0x0100 + s.sp.toNat ∧
    (∀ b : Addr, b ≠ stackAddr s.sp → (s.push v).read b = s.read b) ∧
    s.push v = { s with mem := (s.push v).mem, sp := s.sp - 1 } ∧
    s.pulled = s.read (stackAddr (s.sp + 1)) ∧ s.pull = { s with sp := s.sp + 1 } ∧
    (s.push v).pull.sp = s.sp ∧
    (Memory.wf s.mem = true → (s.push v).read (stackAddr s.sp) = v ∧ (s.push v).pulled = v) ∧
    (s.sp = 0x00 → stackAddr s.sp = 0x0100 ∧ (s.push v).sp = 0xFF) ∧
    (s.sp = 0xFF → s.pull.sp = 0x00 ∧ s.pulled = s.read 0x0100)

/-! ### Flags and operands -/

/-- R27, R28: the masks of the seven named bits of `P`, from N at bit 7 to C at bit 0, bit 5 being in none of them; each
setter ORs or ANDs its mask, a get reads it, a get after a set returns the boolean, and the other seven bits of `P` are
untouched. -/
def Obligations.FlagSettersChangeOneBit : Prop :=
  (Flag.mask .n = 0x80 ∧ Flag.mask .v = 0x40 ∧ Flag.mask .b = 0x10 ∧ Flag.mask .d = 0x08 ∧ Flag.mask .i = 0x04 ∧
    Flag.mask .z = 0x02 ∧ Flag.mask .c = 0x01) ∧
  (∀ p : Byte,
    getFlag .n p = p.getLsbD 7 ∧ getFlag .v p = p.getLsbD 6 ∧ getFlag .b p = p.getLsbD 4 ∧ getFlag .d p = p.getLsbD 3 ∧
    getFlag .i p = p.getLsbD 2 ∧ getFlag .z p = p.getLsbD 1 ∧ getFlag .c p = p.getLsbD 0) ∧
  ∀ (f : Flag) (v : Bool) (p : Byte),
    f.mask.getLsbD 5 = false ∧
    setFlag f v p = (if v then p ||| f.mask else p &&& ~~~f.mask) ∧
    getFlag f p = decide (p &&& f.mask ≠ 0) ∧
    getFlag f (setFlag f v p) = v ∧
    ∀ k : Nat, f.mask.getLsbD k = false → (setFlag f v p).getLsbD k = p.getLsbD k

/-- `SetNZ` sets N to bit 7 of the value and Z to whether it is 0, and leaves the other six bits of `P` (R29; that the
value is the 8-bit result is the spec's own choice D9). -/
def Obligations.SetNZWritesNAndZ : Prop :=
  ∀ v p : Byte,
    getFlag .n (setNZ v p) = v.getLsbD 7 ∧ getFlag .z (setNZ v p) = decide (v = 0) ∧
    ∀ k : Nat, k ≠ 7 → k ≠ 1 → (setNZ v p).getLsbD k = p.getLsbD k

/-- R87 to R93 and R99: the modes that index within page zero or not at all, in numbers. `s.pc` is past the operand
bytes. -/
def Obligations.DirectModesResolve : Prop :=
  ∀ (s : State) (b : Byte) (w : Addr),
    resolve s .implied = ⟨.none, false⟩ ∧ resolve s .accumulator = ⟨.acc, false⟩ ∧
    resolve s (.immediate b) = ⟨.imm b, false⟩ ∧ resolve s (.absolute w) = ⟨.mem w, false⟩ ∧
    (∃ ea : Addr, resolve s (.zeroPage b) = ⟨.mem ea, false⟩ ∧ ea.toNat = b.toNat) ∧
    (∃ ea : Addr, resolve s (.zeroPageX b) = ⟨.mem ea, false⟩ ∧ ea.toNat = (b.toNat + s.x.toNat) % 256) ∧
    (∃ ea : Addr, resolve s (.zeroPageY b) = ⟨.mem ea, false⟩ ∧ ea.toNat = (b.toNat + s.y.toNat) % 256) ∧
    (∃ target : Addr, resolve s (.relative b) = ⟨.rel target, false⟩ ∧
      (target.toNat : Int) = ((s.pc.toNat : Int) + b.toInt) % 65536)

/-- The absolute,X, absolute,Y, indirect, (indirect,X) and (indirect),Y modes, in numbers: sums modulo 2^16, pointers
read within page zero, JMP indirect's high byte read from the pointer's own page (R94 to R98; the wraps and the quirk
are the spec's own choices D2, D3, D4). -/
def Obligations.IndexedAndIndirectModesResolve : Prop :=
  ∀ (s : State) (b : Byte) (w : Addr),
    let byteAt (n : Nat) : Nat := (s.read (BitVec.ofNat 16 n)).toNat
    let zpWord (z : Nat) : Nat := byteAt z + 256 * byteAt ((z + 1) % 256)
    let sum (base index : Nat) (r : Resolved) : Prop :=
      ∃ ea : Addr, r.opnd = .mem ea ∧ ea.toNat = (base + index) % 65536 ∧
        (r.crossed = true ↔ ea.toNat / 256 ≠ base / 256)
    sum w.toNat s.x.toNat (resolve s (.absoluteX w)) ∧
    sum w.toNat s.y.toNat (resolve s (.absoluteY w)) ∧
    sum (zpWord b.toNat) s.y.toNat (resolve s (.indirectY b)) ∧
    (∃ ea : Addr, resolve s (.indirectX b) = ⟨.mem ea, false⟩ ∧ ea.toNat = zpWord ((b.toNat + s.x.toNat) % 256)) ∧
    (∃ ea : Addr, resolve s (.indirect w) = ⟨.mem ea, false⟩ ∧
      ea.toNat = byteAt w.toNat + 256 * byteAt (w.toNat / 256 * 256 + (w.toNat + 1) % 256))

/-- R101: what reading and writing an operand does, and that no row of the table reads an operand other than `Imm`,
`Acc`, `Mem` or writes one other than `Acc`, `Mem`. -/
def Obligations.OperandAccess : Prop :=
  (∀ (s : State) (v : Byte) (ea : Addr),
    readOperand s (.imm v) = v ∧ readOperand s .acc = s.a ∧ readOperand s (.mem ea) = s.read ea ∧
    writeOperand s v .acc = { s with a := v } ∧ writeOperand s v (.mem ea) = s.write ea v) ∧
  (∀ (i : Instr) (s : State),
    (i.descriptor.cls = .read →
      (∃ v, (s.resolved i).opnd = .imm v) ∨ ∃ ea, (s.resolved i).opnd = .mem ea) ∧
    (i.descriptor.cls = .rmw → (s.resolved i).opnd = .acc ∨ ∃ ea, (s.resolved i).opnd = .mem ea) ∧
    (i.descriptor.cls = .write → ∃ ea, (s.resolved i).opnd = .mem ea))

/-! ### Loads, stores, transfers, stack instructions -/

/-- R131, R132, R133: LDA, LDX and LDY, in every mode, write the operand's byte to their register and its N and Z, and
nothing else. -/
def Obligations.LoadsWriteRegisterAndNZ : Prop :=
  ∀ (i : Instr) (s : State),
    let b := s.begun i
    let m := readOperand s (s.resolved i).opnd
    (i.mnemonic = .lda → exec i s = .next { b with a := m, p := setNZ m s.p }) ∧
    (i.mnemonic = .ldx → exec i s = .next { b with x := m, p := setNZ m s.p }) ∧
    (i.mnemonic = .ldy → exec i s = .next { b with y := m, p := setNZ m s.p })

/-- R134, R135, R136: STA, STX and STY, in every mode, write their register to the effective address and change no
register and no flag. -/
def Obligations.StoresWriteTheEffectiveAddress : Prop :=
  ∀ (i : Instr) (s : State) (ea : Addr), (s.resolved i).opnd = .mem ea →
    let b := s.begun i
    (i.mnemonic = .sta → exec i s = .next (b.write ea s.a)) ∧
    (i.mnemonic = .stx → exec i s = .next (b.write ea s.x)) ∧
    (i.mnemonic = .sty → exec i s = .next (b.write ea s.y))

/-- R150 to R156, R158: TAX, TAY, TXA, TYA and TSX copy a register and set N and Z from it; TXS writes no flag. PHA
stores A at `0x0100 + SP` and decrements `SP`, no flag; PLA increments `SP`, loads A from there and sets N and Z. -/
def Obligations.TransfersAndAccumulatorStack : Prop :=
  ∀ s : State,
    let b := { s with pc := s.pc + 1, cycles := s.cycles + 2 }
    let pulled := s.read (stackAddr (s.sp + 1))
    exec .tax s = .next { b with x := s.a, p := setNZ s.a s.p } ∧
    exec .tay s = .next { b with y := s.a, p := setNZ s.a s.p } ∧
    exec .txa s = .next { b with a := s.x, p := setNZ s.x s.p } ∧
    exec .tya s = .next { b with a := s.y, p := setNZ s.y s.p } ∧
    exec .tsx s = .next { b with x := s.sp, p := setNZ s.sp s.p } ∧
    exec .txs s = .next { b with sp := s.x } ∧
    exec .pha s =
      .next { s.write (stackAddr s.sp) s.a with pc := s.pc + 1, sp := s.sp - 1, cycles := s.cycles + 3 } ∧
    exec .pla s =
      .next { s with
        pc := s.pc + 1, sp := s.sp + 1, a := pulled, p := setNZ pulled s.p, cycles := s.cycles + 4 }

/-- PHP pushes `P | 0x30` and leaves `P`; PLP pulls bits 7, 6, 3, 2, 1, 0 of `P` and keeps bits 5 and 4; RTI pulls `P` so
too, then `PC` low and high, with no plus one; PHP and then PLP restore `P` exactly (R157, R159, R232; the spec's own
choice D8). -/
def Obligations.StatusOnTheStack : Prop :=
  (∀ s : State,
    let status := (s.read (stackAddr (s.sp + 1)) &&& 0xCF) ||| (s.p &&& 0x30)
    exec .php s =
      .next { s.write (stackAddr s.sp) (s.p ||| 0x30) with
        pc := s.pc + 1, sp := s.sp - 1, cycles := s.cycles + 3 } ∧
    exec .plp s = .next { s with pc := s.pc + 1, sp := s.sp + 1, p := status, cycles := s.cycles + 4 } ∧
    exec .rti s =
      .next { s with
        pc := wordOfBytes (s.read (stackAddr (s.sp + 3))) (s.read (stackAddr (s.sp + 2)))
        sp := s.sp + 3
        p := status
        cycles := s.cycles + 6 }) ∧
  (∀ s t : State, Memory.wf s.mem = true → exec .php s = .next t →
    exec .plp t = .next { t with pc := t.pc + 1, sp := s.sp, p := s.p, cycles := t.cycles + 4 })

/-! ### Arithmetic -/

/-- R170: the result of a binary addition and its carry are the exact sum, V is the sign-mismatch test and holds exactly
when the signed sum is out of range, N and Z are of the result. -/
def Obligations.BinaryAdditionIsExact : Prop :=
  ∀ (a m : Byte) (c : Bool),
    let r := addBinary a m c
    r.value.toNat + 256 * r.c.toNat = a.toNat + m.toNat + c.toNat ∧
    (r.v = true ↔ a.getLsbD 7 = m.getLsbD 7 ∧ a.getLsbD 7 ≠ r.value.getLsbD 7) ∧
    (r.v = true ↔ a.toInt + m.toInt + c.toNat < -128 ∨ 127 < a.toInt + m.toInt + c.toNat) ∧
    r.n = r.value.getLsbD 7 ∧ (r.z = true ↔ r.value = 0)

/-- A binary subtraction is exact with its borrow, V holds exactly when the signed difference is out of range, and it
gives the result, C and V of adding the complement (R171, whose last remark is the spec's own inference). -/
def Obligations.BinarySubtractionIsExact : Prop :=
  ∀ (a m : Byte) (c : Bool),
    let r := subBinary a m c
    let d : Int := a.toNat - m.toNat - (1 - c.toNat)
    (r.value.toNat : Int) = d % 256 ∧ (r.c = true ↔ 0 ≤ d) ∧
    (r.v = true ↔ a.toInt - m.toInt - (1 - c.toNat) < -128 ∨ 127 < a.toInt - m.toInt - (1 - c.toNat)) ∧
    r.n = r.value.getLsbD 7 ∧ (r.z = true ↔ r.value = 0) ∧
    r.value = (addBinary a (m ^^^ 0xFF) c).value ∧ r.c = (addBinary a (m ^^^ 0xFF) c).c ∧
    r.v = (addBinary a (m ^^^ 0xFF) c).v

/-- On two valid BCD bytes the decimal addition gives the BCD sum modulo 100 and its carry (R173), and the decimal
subtraction the BCD difference modulo 100 (read off R174). Decimal mode is the spec's own choice D5. -/
def Obligations.DecimalArithmeticOnBcd : Prop :=
  ∀ (xt xo yt yo : Fin 10) (c : Bool),
    let bcd (n : Nat) : Byte := BitVec.ofNat 8 (n / 10 % 10 * 16 + n % 10)
    let x := xt.val * 10 + xo.val
    let y := yt.val * 10 + yo.val
    let sum := addDecimalNmos (bcd x) (bcd y) c
    let dif := subDecimalNmos (bcd x) (bcd y) c
    sum.value = bcd ((x + y + c.toNat) % 100) ∧ (sum.c = true ↔ 100 ≤ x + y + c.toNat) ∧
    dif.value = bcd ((100 + x + c.toNat - y - 1) % 100) ∧ (dif.c = true ↔ y + 1 ≤ x + c.toNat)

/-- NMOS decimal addition and subtraction of any two bytes, digit by digit, with the same formula for the digits 0xA to
0xF (R173, R174). A digit sum of 10 or more is corrected by 6 and carries; a negative digit difference is corrected by 6
and borrows. Addition takes N from the high digit sum before its correction, V from the high digits read as signed, C from
the high digit's carry and Z from the binary sum; subtraction takes C, V, N and Z from the binary difference. Decimal mode
is the spec's own choice D5. -/
def Obligations.DecimalArithmeticDigitByDigit : Prop :=
  ∀ (a m : Byte) (c : Bool),
    let low (x : Byte) : Nat := x.toNat % 16
    let high (x : Byte) : Nat := x.toNat / 16
    let signedHigh (x : Byte) : Int := if high x < 8 then high x else high x - 16
    let sumDigit (t : Nat) : Nat := if t < 10 then t else (t + 6) % 16
    let difDigit (t : Int) : Int := if t < 0 then (t - 6) % 16 else t
    let lowSum := low a + low m + c.toNat
    let carry := if lowSum < 10 then 0 else 1
    let highSum := high a + high m + carry
    let signedSum := signedHigh a + signedHigh m + carry
    let lowDif : Int := low a - low m - (1 - c.toNat)
    let borrow : Int := if lowDif < 0 then 1 else 0
    let sum := addDecimalNmos a m c
    let dif := subDecimalNmos a m c
    sum.value.toNat = 16 * sumDigit highSum + sumDigit lowSum ∧
    (sum.c = true ↔ 10 ≤ highSum) ∧ (sum.n = true ↔ highSum / 8 % 2 = 1) ∧
    (sum.v = true ↔ signedSum < -8 ∨ 7 < signedSum) ∧
    (sum.z = true ↔ (a.toNat + m.toNat + c.toNat) % 256 = 0) ∧
    (dif.value.toNat : Int) = 16 * difDigit (high a - high m - borrow) + difDigit lowDif ∧
    dif = { subBinary a m c with value := dif.value }

/-- ADC and SBC, SBC 0xEB among them, in every mode, when mapped and not refused: A and the flags N, V, Z, C get the sum
or difference, binary unless `P.D = 1` and `P_DECIMAL = NMOS` (R175, R176, R273; the choice by R172 is the spec's own,
D5). -/
def Obligations.AdcAndSbcWriteResultAndNVZC : Prop :=
  ∀ (i : Instr) (s : State), i.mapped s.policy = true → (s.flag .d = true → s.policy.decimal ≠ .refuse) →
    let b := s.begun i
    let m := readOperand s (s.resolved i).opnd
    let nmos : Prop := s.flag .d = true ∧ s.policy.decimal = .nmos
    let after (r : AluResult) : Host.Outcome State Fault Refusal :=
      .next { b with a := r.value, p := setFlag .z r.z (setFlag .n r.n (setFlag .v r.v (setFlag .c r.c s.p))) }
    (i.mnemonic = .adc → nmos → exec i s = after (addDecimalNmos s.a m (s.flag .c))) ∧
    (i.mnemonic = .adc → ¬ nmos → exec i s = after (addBinary s.a m (s.flag .c))) ∧
    (i.mnemonic = .sbc → nmos → exec i s = after (subDecimalNmos s.a m (s.flag .c))) ∧
    (i.mnemonic = .sbc → ¬ nmos → exec i s = after (subBinary s.a m (s.flag .c)))

/-- R177 to R180: CMP, CPX and CPY, in every mode, set C to the unsigned comparison and N and Z from the 8-bit
difference, and write nothing else. -/
def Obligations.ComparesWriteNZC : Prop :=
  ∀ (i : Instr) (s : State),
    let m := readOperand s (s.resolved i).opnd
    let after (reg : Byte) : Host.Outcome State Fault Refusal :=
      .next { s.begun i with p := setNZ (reg - m) (setFlag .c (decide (m.toNat ≤ reg.toNat)) s.p) }
    (i.mnemonic = .cmp → exec i s = after s.a) ∧
    (i.mnemonic = .cpx → exec i s = after s.x) ∧
    (i.mnemonic = .cpy → exec i s = after s.y)

/-- R181 to R186: INC and DEC, in every mode, add or subtract 1 in memory; INX, INY, DEX and DEY in their register; N and
Z from the result and no other flag. -/
def Obligations.IncrementsAndDecrements : Prop :=
  (∀ (i : Instr) (s : State) (ea : Addr), (s.resolved i).opnd = .mem ea →
    let b := s.begun i
    let up := s.read ea + 1
    let down := s.read ea - 1
    (i.mnemonic = .inc → exec i s = .next { b.write ea up with p := setNZ up s.p }) ∧
    (i.mnemonic = .dec → exec i s = .next { b.write ea down with p := setNZ down s.p })) ∧
  (∀ s : State,
    let b := { s with pc := s.pc + 1, cycles := s.cycles + 2 }
    exec .inx s = .next { b with x := s.x + 1, p := setNZ (s.x + 1) s.p } ∧
    exec .iny s = .next { b with y := s.y + 1, p := setNZ (s.y + 1) s.p } ∧
    exec .dex s = .next { b with x := s.x - 1, p := setNZ (s.x - 1) s.p } ∧
    exec .dey s = .next { b with y := s.y - 1, p := setNZ (s.y - 1) s.p })

/-! ### Logic, bit test, shifts -/

/-- R201 to R204: AND, ORA and EOR, in every mode, combine A with the operand and set N and Z; BIT writes N and V from
the operand's bits 7 and 6 and Z from `A & m`. -/
def Obligations.LogicAndBitTest : Prop :=
  ∀ (i : Instr) (s : State),
    let b := s.begun i
    let m := readOperand s (s.resolved i).opnd
    (i.mnemonic = .and → exec i s = .next { b with a := s.a &&& m, p := setNZ (s.a &&& m) s.p }) ∧
    (i.mnemonic = .ora → exec i s = .next { b with a := s.a ||| m, p := setNZ (s.a ||| m) s.p }) ∧
    (i.mnemonic = .eor → exec i s = .next { b with a := s.a ^^^ m, p := setNZ (s.a ^^^ m) s.p }) ∧
    (i.mnemonic = .bit → exec i s = .next { b with
      p := setFlag .v (m.getLsbD 6) (setFlag .n (m.getLsbD 7) (setFlag .z (decide (s.a &&& m = 0)) s.p)) })

/-- R200, R205 to R208: ASL, LSR, ROL and ROR, on A and in every memory mode, write the shifted byte back to their
operand, the bit shifted out to C, and N and Z from the result. -/
def Obligations.ShiftsAndRotates : Prop :=
  ∀ (i : Instr) (s : State),
    let o := (s.resolved i).opnd
    let m := readOperand s o
    let carry : Byte := if s.flag .c then 1 else 0
    let after (r : Byte) (out : Bool) : Host.Outcome State Fault Refusal :=
      .next { writeOperand (s.begun i) r o with p := setNZ r (setFlag .c out s.p) }
    (i.mnemonic = .asl → exec i s = after (m <<< 1) (m.getLsbD 7)) ∧
    (i.mnemonic = .lsr → exec i s = after (m >>> 1) (m.getLsbD 0)) ∧
    (i.mnemonic = .rol → exec i s = after ((m <<< 1) ||| carry) (m.getLsbD 7)) ∧
    (i.mnemonic = .ror → exec i s = after ((m >>> 1) ||| (carry <<< 7)) (m.getLsbD 0))

/-! ### Control transfer, BRK, NOP, flag instructions -/

/-- The eight branches: not taken, only past the instruction, 2 cycles; taken, `PC` at the next instruction's address
plus the signed offset, 3 cycles, or 4 when that is on another page than the next instruction (R220 to R228; which page
the test compares with is the spec's own choice D13). No flag, register or byte of memory changes. -/
def Obligations.BranchesTakeTheirCondition : Prop :=
  ∀ (off : Byte) (s : State),
    let next : Addr := s.pc + 2
    let target : Addr := next + off.signExtend 16
    let after (taken : Bool) : Host.Outcome State Fault Refusal :=
      if taken then
        .next { s with
          pc := target
          cycles := s.cycles + if target.toNat / 256 = next.toNat / 256 then 3 else 4 }
      else .next { s with pc := next, cycles := s.cycles + 2 }
    exec (.bpl off) s = after (!s.flag .n) ∧ exec (.bmi off) s = after (s.flag .n) ∧
    exec (.bvc off) s = after (!s.flag .v) ∧ exec (.bvs off) s = after (s.flag .v) ∧
    exec (.bcc off) s = after (!s.flag .c) ∧ exec (.bcs off) s = after (s.flag .c) ∧
    exec (.bne off) s = after (!s.flag .z) ∧ exec (.beq off) s = after (s.flag .z)

/-- JMP goes to its address, or to the word at its pointer, whose high byte comes from the pointer's page; JSR pushes the
address of its last byte, high byte first, and goes to its address (R229, R230; the spec's own choices D4, D16). -/
def Obligations.JumpsAndCalls : Prop :=
  ∀ (w : Addr) (s : State),
    exec (.jmpAbs w) s = .next { s with pc := w, cycles := s.cycles + 3 } ∧
    exec (.jmpInd w) s =
      .next { s with
        pc := wordOfBytes (s.read ((w &&& 0xFF00) ||| ((w + 1) &&& 0x00FF))) (s.read w)
        cycles := s.cycles + 5 } ∧
    exec (.jsrAbs w) s =
      let ret := s.pc + 2
      .next { (s.write (stackAddr s.sp) (highByte ret)).write (stackAddr (s.sp - 1)) (lowByte ret) with
        pc := w, sp := s.sp - 2, cycles := s.cycles + 6 }

/-- R231: RTS pulls the low byte, then the high byte, and goes to the word plus one. -/
def Obligations.RtsReturns : Prop :=
  ∀ s : State, exec .rts s =
    .next { s with
      pc := wordOfBytes (s.read (stackAddr (s.sp + 2))) (s.read (stackAddr (s.sp + 1))) + 1
      sp := s.sp + 2
      cycles := s.cycles + 6 }

/-- RTS right after JSR goes to the instruction after the JSR and restores `SP`, at every value of `SP` (from R230 and
R231; the spec's own choice D16). -/
def Obligations.RtsAfterJsrReturnsToTheNextInstruction : Prop :=
  ∀ (w : Addr) (s t : State), Memory.wf s.mem = true → exec (.jsrAbs w) s = .next t →
    exec .rts t = .next { t with pc := s.pc + 3, sp := s.sp, cycles := t.cycles + 6 }

/-- BRK sets B and halts: `PC` at its address plus 1, 7 cycles, nothing pushed, no vector read, every other flag as it
was (R233, R303; what it does beyond the halt is the spec's own choice D7). -/
def Obligations.BrkHaltsAndSetsB : Prop :=
  ∀ s : State, exec .brk s =
    .next { s with pc := s.pc + 1, p := s.p ||| 0x10, cycles := s.cycles + 7, status := .halted .brk }

/-- R234, R274: NOP, and every illegal NOP form where it is mapped, goes past its bytes, is charged its cost, and does
nothing else. -/
def Obligations.NopsDoNothing : Prop :=
  ∀ s : State, exec .nop s = .next { s with pc := s.pc + 1, cycles := s.cycles + 2 } ∧
    ∀ i : Instr, i.mnemonic = .nop → i.mapped s.policy = true → exec i s = .next (s.begun i)

/-- R235, R236, R239: CLC, SEC and CLV write one bit of `P` and nothing else. -/
def Obligations.CarryAndOverflowInstructions : Prop :=
  ∀ s : State,
    let b := { s with pc := s.pc + 1, cycles := s.cycles + 2 }
    exec .clc s = .next { b with p := s.p &&& 0xFE } ∧ exec .sec s = .next { b with p := s.p ||| 0x01 } ∧
    exec .clv s = .next { b with p := s.p &&& 0xBF }

/-- CLI, SEI, CLD and SED write one bit of `P` and nothing else (R237, R238, R240, R241; that I has no other effect and
what D does are the spec's own choices D11 and D5). -/
def Obligations.InterruptAndDecimalInstructions : Prop :=
  ∀ s : State,
    let b := { s with pc := s.pc + 1, cycles := s.cycles + 2 }
    exec .cli s = .next { b with p := s.p &&& 0xFB } ∧ exec .sei s = .next { b with p := s.p ||| 0x04 } ∧
    exec .cld s = .next { b with p := s.p &&& 0xF7 } ∧ exec .sed s = .next { b with p := s.p ||| 0x08 }

/-! ### The stable illegal opcodes and the unmapped bytes -/

/-- R261, R262, R263, R267: SLO, RLA, SRE and DCP, in every mode, under `P_ILLEGAL = Stable`: the byte is changed in
memory and then combined with A, or compared with it. -/
def Obligations.IllegalReadModifyWrite : Prop :=
  ∀ (i : Instr) (s : State) (ea : Addr), s.policy.illegal = .stable → (s.resolved i).opnd = .mem ea →
    let m := s.read ea
    let shl := m <<< 1
    let rol := (m <<< 1) ||| (if s.flag .c then (1 : Byte) else 0)
    let shr := m >>> 1
    let dec := m - 1
    let after (r : Byte) (a : Byte) (out : Bool) : Host.Outcome State Fault Refusal :=
      .next { (s.begun i).write ea r with a := a, p := setNZ a (setFlag .c out s.p) }
    (i.mnemonic = .slo → exec i s = after shl (s.a ||| shl) (m.getLsbD 7)) ∧
    (i.mnemonic = .rla → exec i s = after rol (s.a &&& rol) (m.getLsbD 7)) ∧
    (i.mnemonic = .sre → exec i s = after shr (s.a ^^^ shr) (m.getLsbD 0)) ∧
    (i.mnemonic = .dcp → exec i s =
      .next { (s.begun i).write ea dec with
        p := setNZ (s.a - dec) (setFlag .c (decide (dec.toNat ≤ s.a.toNat)) s.p) })

/-- RRA and ISC, in every mode, and ARR, under `P_ILLEGAL = Stable` and not refused: the memory byte is rotated or
incremented and then added or subtracted, binary unless `P.D = 1` and `P_DECIMAL = NMOS`; ARR takes C from bit 6 and V
from bits 6 and 5 of its result (R264, R268, R271; decimal mode is the spec's own choice D5). -/
def Obligations.IllegalAddSubtractAndArr : Prop :=
  (∀ (i : Instr) (s : State) (ea : Addr), s.policy.illegal = .stable → (s.resolved i).opnd = .mem ea →
    (s.flag .d = true → s.policy.decimal ≠ .refuse) →
    let m := s.read ea
    let ror := (m >>> 1) ||| (if s.flag .c then (0x80 : Byte) else 0)
    let inc := m + 1
    let nmos : Bool := s.flag .d && s.policy.decimal == .nmos
    let after (w : Byte) (r : AluResult) : Host.Outcome State Fault Refusal :=
      .next { (s.begun i).write ea w with
        a := r.value, p := setFlag .z r.z (setFlag .n r.n (setFlag .v r.v (setFlag .c r.c s.p))) }
    (i.mnemonic = .rra → exec i s =
      after ror (if nmos then addDecimalNmos s.a ror (m.getLsbD 0) else addBinary s.a ror (m.getLsbD 0))) ∧
    (i.mnemonic = .isc → exec i s =
      after inc (if nmos then subDecimalNmos s.a inc (s.flag .c) else subBinary s.a inc (s.flag .c)))) ∧
  (∀ (s : State) (v : Byte), s.policy.illegal = .stable → (s.flag .d = true → s.policy.decimal = .binary) →
    let r := ((s.a &&& v) >>> 1) ||| (if s.flag .c then (0x80 : Byte) else 0)
    exec (.arrImm v) s =
      .next { s with
        pc := s.pc + 2
        cycles := s.cycles + 2
        a := r
        p := setFlag .v (r.getLsbD 6 ^^ r.getLsbD 5) (setFlag .c (r.getLsbD 6) (setNZ r s.p)) })

/-- R265, R266, R269, R270, R272: SAX and LAX, in every mode, ANC (both bytes), ALR and SBX, under
`P_ILLEGAL = Stable`. -/
def Obligations.IllegalLoadsStoresAndImmediates : Prop :=
  (∀ (i : Instr) (s : State) (ea : Addr), s.policy.illegal = .stable → (s.resolved i).opnd = .mem ea →
    let m := s.read ea
    (i.mnemonic = .sax → exec i s = .next ((s.begun i).write ea (s.a &&& s.x))) ∧
    (i.mnemonic = .lax → exec i s = .next { s.begun i with a := m, x := m, p := setNZ m s.p })) ∧
  (∀ (s : State) (v : Byte), s.policy.illegal = .stable →
    let b := { s with pc := s.pc + 2, cycles := s.cycles + 2 }
    let t := s.a &&& v
    let d := (s.a &&& s.x) - v
    exec (.ancImm0B v) s = .next { b with a := t, p := setFlag .c (t.getLsbD 7) (setNZ t s.p) } ∧
    exec (.ancImm2B v) s = .next { b with a := t, p := setFlag .c (t.getLsbD 7) (setNZ t s.p) } ∧
    exec (.alrImm v) s = .next { b with a := t >>> 1, p := setNZ (t >>> 1) (setFlag .c (t.getLsbD 0) s.p) } ∧
    exec (.sbxImm v) s =
      .next { b with x := d, p := setNZ d (setFlag .c (decide (v.toNat ≤ (s.a &&& s.x).toNat)) s.p) })

/-- The illegal-opcode fault, the only exception: an unmapped byte leaves `PC` at its address plus 1 and
`status = Faulted(opcode, address)`, and changes nothing else. Unmapped are JAM, SHA, ANE, LXA, TAS, SHY, SHX and LAS,
always, and a stable illegal opcode when `P_ILLEGAL = None` (R301, R302, R260; the spec's own choices D6, D10). -/
def Obligations.UnmappedBytesFault : Prop :=
  ∀ s : State,
    let faulted (opcode : Byte) : Host.Outcome State Fault Refusal :=
      .next { s with pc := s.pc + 1, status := .faulted opcode s.pc }
    (∀ j : JamOpcode, exec (.jam j) s = faulted j.byte) ∧ (∀ j : ShaOpcode, exec (.sha j) s = faulted j.byte) ∧
    exec .ane8B s = faulted 0x8B ∧ exec .lxaAB s = faulted 0xAB ∧ exec .tas9B s = faulted 0x9B ∧
    exec .shy9C s = faulted 0x9C ∧ exec .shx9E s = faulted 0x9E ∧ exec .lasBB s = faulted 0xBB ∧
    ∀ i : Instr, i.descriptor.set = .illegal → s.policy.illegal = .none → exec i s = faulted i.opcode

/-- The refusal: with `P.D = 1`, ADC, SBC, RRA and ISC under `P_DECIMAL = Refuse`, and ARR unless `P_DECIMAL = Binary`,
where mapped, change only `status` (R172, R305, R306; the spec's own choices D5, D22). -/
def Obligations.DecimalModeRefusal : Prop :=
  ∀ (i : Instr) (s : State), i.mapped s.policy = true → s.flag .d = true →
    (i.mnemonic ∈ [.adc, .sbc, .rra, .isc] ∧ s.policy.decimal = .refuse ∨
      i.mnemonic = .arr ∧ s.policy.decimal ≠ .binary) →
    exec i s = .next { s with status := .refused .decimalMode i.opcode s.pc }

/-! ### The whole machine -/

/-- Every step of a running engine ends in a next state, in exactly one of four ways, tested in the order unmapped,
refused, executed: the fault, the refusal, BRK's halt, or still running (R300, R310; the refusal is the spec's own choice
D22). -/
def Obligations.StepEndsInOneOutcome : Prop :=
  ∀ s : State, s.status = .running →
    ∃ t : State, step s = .next t ∧
      (s.fetched.mapped s.policy = false → t.status = .faulted s.fetched.opcode s.pc) ∧
      (s.fetched.mapped s.policy = true → s.decimalRefused s.fetched.mnemonic = true →
        t.status = .refused .decimalMode s.fetched.opcode s.pc) ∧
      (s.fetched.mapped s.policy = true → s.decimalRefused s.fetched.mnemonic = false →
        t.status = if s.fetched.mnemonic = .brk then .halted .brk else .running)

/-- Which instructions may change which flag (R34): no instruction outside a flag's list changes it. -/
def Obligations.FlagsChangedOnlyByTheirWriters : Prop :=
  ∀ (i : Instr) (s t : State), exec i s = .next t →
    (i.mnemonic ∉ [.lda, .ldx, .ldy, .tax, .tay, .txa, .tya, .tsx, .pla, .adc, .sbc, .cmp, .cpx, .cpy, .inc, .inx, .iny,
        .dec, .dex, .dey, .and, .ora, .eor, .bit, .asl, .lsr, .rol, .ror, .plp, .rti, .slo, .rla, .sre, .rra, .lax, .dcp,
        .isc, .anc, .alr, .arr, .sbx] →
      t.flag .n = s.flag .n ∧ t.flag .z = s.flag .z) ∧
    (i.mnemonic ∉ [.adc, .sbc, .bit, .clv, .plp, .rti, .rra, .isc, .arr] → t.flag .v = s.flag .v) ∧
    (i.mnemonic ∉ [.adc, .sbc, .cmp, .cpx, .cpy, .asl, .lsr, .rol, .ror, .clc, .sec, .plp, .rti, .slo, .rla, .sre, .rra,
        .dcp, .isc, .anc, .alr, .arr, .sbx] →
      t.flag .c = s.flag .c)

/-- D changes only by SED, CLD, PLP, RTI and I only by SEI, CLI, PLP, RTI; B is set by BRK and never cleared; bit 5 of
`P` never changes (R30 to R33; the spec's own choices D5, D8, D11). -/
def Obligations.ControlBitsOfPChangeOnlyByTheirWriters : Prop :=
  ∀ (i : Instr) (s t : State), exec i s = .next t →
    (i.mnemonic ∉ [.sed, .cld, .plp, .rti] → t.flag .d = s.flag .d) ∧
    (i.mnemonic ∉ [.sei, .cli, .plp, .rti] → t.flag .i = s.flag .i) ∧
    (i.mnemonic ≠ .brk → t.flag .b = s.flag .b) ∧ (s.flag .b = true → t.flag .b = true) ∧
    t.p.getLsbD 5 = s.p.getLsbD 5

/-- Which instructions may change which register: A, X, Y and `SP` change only by the instructions listed, and `PC` goes
past the instruction unless it transfers control, faults or is refused (R21 to R25, and the pseudocode of the instruction
rules of 40_load_store.md to 45_illegal.md). The parameters never change: that State has a field for them is the model's
choice, log 1, for R39 says that they are no state. -/
def Obligations.RegistersChangedOnlyByTheirWriters : Prop :=
  ∀ (i : Instr) (s t : State), exec i s = .next t →
    (i.mnemonic ∉ [.lda, .txa, .tya, .pla, .adc, .sbc, .and, .ora, .eor, .slo, .rla, .sre, .rra, .isc, .lax, .anc, .alr,
        .arr] → i.mode ≠ .accumulator → t.a = s.a) ∧
    (i.mnemonic ∉ [.ldx, .tax, .tsx, .inx, .dex, .lax, .sbx] → t.x = s.x) ∧
    (i.mnemonic ∉ [.ldy, .tay, .iny, .dey] → t.y = s.y) ∧
    (i.mnemonic ∉ [.txs, .pha, .php, .pla, .plp, .jsr, .rts, .rti] → t.sp = s.sp) ∧
    (Executes i s → i.mnemonic ∉ [.bpl, .bmi, .bvc, .bvs, .bcc, .bcs, .bne, .beq, .jmp, .jsr, .rts, .rti] →
      t.pc = s.pc + BitVec.ofNat 16 i.length) ∧
    t.policy = s.policy

/-- Every byte of memory is unchanged but those an instruction stores to: the effective address of a store or a
read-modify-write on memory, `0x0100 + SP` for PHA and PHP, that and the next lower stack byte for JSR. Every other form
changes no byte (R52, R60, R101). -/
def Obligations.MemoryChangedOnlyWhereStored : Prop :=
  ∀ (i : Instr) (s t : State), exec i s = .next t →
    (∀ ea : Addr, (i.descriptor.cls = .write ∨ i.descriptor.cls = .rmw) → (s.resolved i).opnd = .mem ea →
      ∀ a : Addr, a ≠ ea → t.read a = s.read a) ∧
    (i.descriptor.cls = .rmw → (s.resolved i).opnd = .acc → ∀ a : Addr, t.read a = s.read a) ∧
    (i.mnemonic ∈ [.pha, .php] → ∀ a : Addr, a ≠ stackAddr s.sp → t.read a = s.read a) ∧
    (i.mnemonic = .jsr →
      ∀ a : Addr, a ≠ stackAddr s.sp → a ≠ stackAddr (s.sp - 1) → t.read a = s.read a) ∧
    (i.descriptor.cls ≠ .write → i.descriptor.cls ≠ .rmw → i.mnemonic ∉ [.pha, .php, .jsr] →
      ∀ a : Addr, t.read a = s.read a)

/-- A store is seen by the next fetch: when an instruction stores to the address of the instruction that follows it, that
one has the byte stored as its opcode. This holds of every store and every read-modify-write on memory, in every mode, of
PHA and PHP, and of the two bytes JSR pushes, the instruction after which is the one at its target (from R67, R341, an
inference the spec marks as its own; the order of accesses and PHP's byte are its own choices D16 and D8). -/
def Obligations.StoreIsSeenByTheNextFetch : Prop :=
  ∀ (i : Instr) (s t : State), Memory.wf s.mem = true → Executes i s → exec i s = .next t →
    let next : Addr := s.pc + BitVec.ofNat 16 i.length
    let m := s.read next
    let carry : Byte := if s.flag .c then 1 else 0
    ((s.resolved i).opnd = .mem next →
      (i.mnemonic = .sta → t.fetched.opcode = s.a) ∧
      (i.mnemonic = .stx → t.fetched.opcode = s.x) ∧
      (i.mnemonic = .sty → t.fetched.opcode = s.y) ∧
      (i.mnemonic = .sax → t.fetched.opcode = s.a &&& s.x) ∧
      (i.mnemonic ∈ [.asl, .slo] → t.fetched.opcode = m <<< 1) ∧
      (i.mnemonic ∈ [.lsr, .sre] → t.fetched.opcode = m >>> 1) ∧
      (i.mnemonic ∈ [.rol, .rla] → t.fetched.opcode = (m <<< 1) ||| carry) ∧
      (i.mnemonic ∈ [.ror, .rra] → t.fetched.opcode = (m >>> 1) ||| (carry <<< 7)) ∧
      (i.mnemonic ∈ [.inc, .isc] → t.fetched.opcode = m + 1) ∧
      (i.mnemonic ∈ [.dec, .dcp] → t.fetched.opcode = m - 1)) ∧
    (i.mnemonic = .pha → stackAddr s.sp = next → t.fetched.opcode = s.a) ∧
    (i.mnemonic = .php → stackAddr s.sp = next → t.fetched.opcode = s.p ||| 0x30) ∧
    (∀ w : Addr, i = .jsrAbs w →
      (stackAddr s.sp = w → t.fetched.opcode = highByte (s.pc + 2)) ∧
      (stackAddr (s.sp - 1) = w → t.fetched.opcode = lowByte (s.pc + 2)))

/-- No instruction reads `cycles`: with `n` more before, the step gives the same state with `n` more after (R36; that the
counter is unbounded is the spec's own choice D14). -/
def Obligations.CyclesAreNeverRead : Prop :=
  ∀ (i : Instr) (s t : State) (n : Nat), exec i s = .next t → exec i (s.addCycles n) = .next (t.addCycles n)

/-- `P.I` masks nothing: changing it before an instruction other than PHP, which stores it, changes nothing after but,
at most, I itself (R33, R307; the spec's own choice D11). -/
def Obligations.InterruptFlagHasNoEffect : Prop :=
  ∀ (i : Instr) (s t : State) (v : Bool), i.mnemonic ≠ .php → exec i s = .next t →
    ∃ t' : State, exec i (s.setFlag .i v) = .next t' ∧ t' = { t with p := t'.p } ∧
      ∀ k : Nat, k ≠ 2 → t'.p.getLsbD k = t.p.getLsbD k

/-- With `P.D = 0` every setting of `P_DECIMAL` gives the same result (R172; the spec's own choice D5). -/
def Obligations.DecimalPolicyMattersOnlyWithDSet : Prop :=
  ∀ (i : Instr) (s t : State) (d : DecimalPolicy), s.flag .d = false → exec i s = .next t →
    exec i { s with policy := { s.policy with decimal := d } } =
      .next { t with policy := { t.policy with decimal := d } }

/-! ### Bootstrap, the host, and the invariant -/

/-- The state at session bootstrap: `SP = 0xFF`, A, X, Y and `P` 0, every byte of memory 0, `PC = 0x0600`, `cycles = 0`,
`status = Idle` (R41; the last three are the spec's own choices D1, D14, D18). -/
def Obligations.ResetState : Prop :=
  let s := State.reset
  s.pc = 0x0600 ∧ s.sp = 0xFF ∧ s.a = 0 ∧ s.x = 0 ∧ s.y = 0 ∧ s.p = 0 ∧ s.cycles = 0 ∧ s.status = .idle ∧
    (∀ a : Addr, s.read a = 0) ∧ bootstrap {} = s

/-- Bootstrap for any parameters: `PC` is `P_START`, a byte of memory is that of the last pair of `P_IMAGE` at its
address, or 0, and the rest is as at reset (R330, R331; the spec's own choices D1, D17). -/
def Obligations.BootstrapLoadsTheImage : Prop :=
  ∀ (params : Params) (a : Addr),
    let s := bootstrap params
    s.read a = ((params.image.reverse.find? fun av => av.1 == a).map Prod.snd).getD 0 ∧
    s = { State.reset with pc := params.start, mem := s.mem, policy := params.policy }

/-- The host's moves: start leaves `Idle`, stop leaves `Running` for `Halted(HostStop)` without setting B, restart leaves
`Halted` for either reason; each changes only `status`, there is no other, and none leaves `Faulted` or `Refused` (R333,
R334, R335, R337; the spec's own choices D17, D19). -/
def Obligations.HostMoves : Prop :=
  ∀ s : State,
    (s.status = .idle → hostMove .start s = some { s with status := .running }) ∧
    (s.status = .running → hostMove .stop s = some { s with status := .halted .hostStop }) ∧
    (∀ r, s.status = .halted r → hostMove .restart s = some { s with status := .running }) ∧
    (s.status ≠ .idle → hostMove .start s = none) ∧
    (s.status ≠ .running → hostMove .stop s = none) ∧
    ((∀ r, s.status ≠ .halted r) → hostMove .restart s = none)

/-- The reset state has the invariant `Inv`. -/
def Obligations.ResetHasTheInvariant : Prop := Inv State.reset

/-- Every bootstrap state, for any parameters, has the invariant, and every host move keeps it (R330, R332 to R337). -/
def Obligations.BootstrapAndHostMovesKeepTheInvariant : Prop :=
  (∀ params : Params, Inv (bootstrap params)) ∧
  (∀ (m : HostMove) (s t : State), Inv s → hostMove m s = some t → Inv t)

/-- Every step from a state with the invariant ends in one with it: memory canonical, bit 5 of `P` 0 (R30), and `status`
telling the truth: B set after BRK's halt (R303), `PC` past an unmapped byte after a fault (R302), `PC` at a refused one
with D set after a refusal (R306). -/
def Obligations.StepKeepsTheInvariant : Prop :=
  ∀ s t : State, Inv s → step s = .next t → Inv t

/-- Every state a session can reach from bootstrap, by steps and host moves in any order, has the invariant: the corollary,
by induction over `Reachable`, of BootstrapAndHostMovesKeepTheInvariant and StepKeepsTheInvariant. -/
def Obligations.EveryReachableStateHasTheInvariant : Prop :=
  ∀ (params : Params) (s : State), Reachable params s → Inv s
end

