-- ==== Sys2Proof/Laws/Dispatch.lean ====
section
/-! SUPPORT. What `exec` does, said once: it runs R84's step with the rule of the instruction's mnemonic. -/

namespace Sys2Proof.Machine

/-- The rule of a mnemonic. Both kinds of NOP do nothing (R234, R274); the unmapped bytes have no rule, and `perform`
never runs one for them. -/
def ruleOf : Mnemonic → Rule
  | .adc => adcRule
  | .alr => alrRule
  | .anc => ancRule
  | .and => andRule
  | .ane => nopRule
  | .arr => arrRule
  | .asl => aslRule
  | .bcc => bccRule
  | .bcs => bcsRule
  | .beq => beqRule
  | .bit => bitRule
  | .bmi => bmiRule
  | .bne => bneRule
  | .bpl => bplRule
  | .brk => brkRule
  | .bvc => bvcRule
  | .bvs => bvsRule
  | .clc => clcRule
  | .cld => cldRule
  | .cli => cliRule
  | .clv => clvRule
  | .cmp => cmpRule
  | .cpx => cpxRule
  | .cpy => cpyRule
  | .dcp => dcpRule
  | .dec => decRule
  | .dex => dexRule
  | .dey => deyRule
  | .eor => eorRule
  | .inc => incRule
  | .inx => inxRule
  | .iny => inyRule
  | .isc => iscRule
  | .jam => nopRule
  | .jmp => jmpRule
  | .jsr => jsrRule
  | .las => nopRule
  | .lax => laxRule
  | .lda => ldaRule
  | .ldx => ldxRule
  | .ldy => ldyRule
  | .lsr => lsrRule
  | .lxa => nopRule
  | .nop => nopRule
  | .ora => oraRule
  | .pha => phaRule
  | .php => phpRule
  | .pla => plaRule
  | .plp => plpRule
  | .rla => rlaRule
  | .rol => rolRule
  | .ror => rorRule
  | .rra => rraRule
  | .rti => rtiRule
  | .rts => rtsRule
  | .sax => saxRule
  | .sbc => sbcRule
  | .sbx => sbxRule
  | .sec => secRule
  | .sed => sedRule
  | .sei => seiRule
  | .sha => nopRule
  | .shx => nopRule
  | .shy => nopRule
  | .slo => sloRule
  | .sre => sreRule
  | .sta => staRule
  | .stx => stxRule
  | .sty => styRule
  | .tas => nopRule
  | .tax => taxRule
  | .tay => tayRule
  | .tsx => tsxRule
  | .txa => txaRule
  | .txs => txsRule
  | .tya => tyaRule

/-- Every arm of `exec` is `perform` with the rule of its mnemonic. -/
theorem exec_eq_perform (i : Instr) (s : State) : exec i s = perform i (ruleOf i.mnemonic) s := by
  cases i <;> rfl

/-- Everything `perform` can do: take the fault, take the refusal, or run the rule (R84, R310). -/
theorem perform_cases (i : Instr) (r : Rule) (s : State) :
    (i.mapped s.policy = false ∧ perform i r s = .next (s.takeIllegalOpcode i.opcode)) ∨
    (i.mapped s.policy = true ∧ s.decimalRefused i.mnemonic = true ∧
      perform i r s = .next (s.takeRefusal .decimalMode i.opcode)) ∨
    (i.mapped s.policy = true ∧ s.decimalRefused i.mnemonic = false ∧
      perform i r s = .next (r (s.resolved i).opnd (s.begun i))) := by
  unfold perform
  cases i.mapped s.policy <;> cases s.decimalRefused i.mnemonic <;> simp

/-- Everything `exec` can do. -/
theorem exec_cases (i : Instr) (s : State) :
    (i.mapped s.policy = false ∧ exec i s = .next (s.takeIllegalOpcode i.opcode)) ∨
    (i.mapped s.policy = true ∧ s.decimalRefused i.mnemonic = true ∧
      exec i s = .next (s.takeRefusal .decimalMode i.opcode)) ∨
    (i.mapped s.policy = true ∧ s.decimalRefused i.mnemonic = false ∧
      exec i s = .next (ruleOf i.mnemonic (s.resolved i).opnd (s.begun i))) := by
  rw [exec_eq_perform]
  exact perform_cases i _ s

/-- An instruction that is mapped and not refused runs its rule. -/
theorem exec_runs (i : Instr) (s : State) (hm : i.mapped s.policy = true) (hd : s.decimalRefused i.mnemonic = false) :
    exec i s = .next (ruleOf i.mnemonic (s.resolved i).opnd (s.begun i)) := by
  simp [exec_eq_perform, perform, hm, hd]

/-- Every decimal-insensitive mnemonic is never refused (R172). -/
theorem decimalRefused_eq_false (s : State) (m : Mnemonic)
    (h : m ≠ .adc ∧ m ≠ .sbc ∧ m ≠ .rra ∧ m ≠ .isc ∧ m ≠ .arr) : s.decimalRefused m = false := by
  obtain ⟨h1, h2, h3, h4, h5⟩ := h
  unfold State.decimalRefused
  cases m <;> simp_all

/-- A refusal needs `P.D = 1` (R172). -/
theorem flag_d_of_decimalRefused (s : State) (m : Mnemonic) (h : s.decimalRefused m = true) : s.flag .d = true := by
  simp only [State.decimalRefused, Bool.and_eq_true] at h
  exact h.1

end Sys2Proof.Machine
end

