-- ==== Sys2Proof/Laws/Encoding.lean ====
section
/-! SUPPORT. Bytes and words (20_memory.md R56), and decoding by length (30_encoding.md R81). -/

namespace Sys2Proof

/-- A word in numbers (R56). -/
theorem wordOfBytes_toNat (hi lo : Byte) : (wordOfBytes hi lo).toNat = lo.toNat + 256 * hi.toNat := by
  unfold wordOfBytes
  rw [BitVec.toNat_append, ← Nat.shiftLeft_add_eq_or_of_lt lo.isLt, Nat.shiftLeft_eq]
  omega

theorem lowByte_toNat (w : Addr) : (lowByte w).toNat = w.toNat % 256 := by
  simp [lowByte, BitVec.extractLsb'_toNat]

theorem highByte_toNat (w : Addr) : (highByte w).toNat = w.toNat / 256 := by
  simp only [highByte, BitVec.extractLsb'_toNat, Nat.shiftRight_eq_div_pow]
  omega

@[simp] theorem lowByte_wordOfBytes (hi lo : Byte) : lowByte (wordOfBytes hi lo) = lo := by
  apply BitVec.eq_of_toNat_eq
  rw [lowByte_toNat, wordOfBytes_toNat]
  omega

@[simp] theorem highByte_wordOfBytes (hi lo : Byte) : highByte (wordOfBytes hi lo) = hi := by
  apply BitVec.eq_of_toNat_eq
  rw [highByte_toNat, wordOfBytes_toNat]
  omega

@[simp] theorem wordOfBytes_bytes (w : Addr) : wordOfBytes (highByte w) (lowByte w) = w := by
  apply BitVec.eq_of_toNat_eq
  rw [wordOfBytes_toNat, highByte_toNat, lowByte_toNat]
  omega

/-- A statement about every opcode byte, byte by byte. -/
theorem forall_byte {P : Byte → Prop} (h : ∀ n < 256, P (BitVec.ofNat 8 n)) (x : Byte) : P x := by
  have hx := h x.toNat x.isLt
  rwa [BitVec.ofNat_toNat, BitVec.setWidth_eq] at hx

/-- Decoding a two-byte instruction. -/
theorem decode_two (op b : Byte) (rest : List Byte) (h : (decodeBytes op 0 0).length = 2) :
    decode (op :: b :: rest) = .ok (decodeBytes op b (rest.getD 0 0), rest) := by
  unfold decode
  simp only [h]
  rw [if_neg (by simp)]
  rfl

/-- Decoding a three-byte instruction. -/
theorem decode_three (op b c : Byte) (rest : List Byte) (h : (decodeBytes op 0 0).length = 3) :
    decode (op :: b :: c :: rest) = .ok (decodeBytes op b c, rest) := by
  unfold decode
  simp only [h]
  rw [if_neg (by simp)]
  rfl

end Sys2Proof
end

