-- ==== Sys2Proof/Laws/Flags.lean ====
section
/-! SUPPORT. The flag accessors (10_state.md R28, R29): each setter changes its own bit and no other. -/

namespace Sys2Proof.Machine

/-- The number of a flag's bit in `P` (R27). -/
def Flag.bit : Flag → Nat
  | .n => 7
  | .v => 6
  | .b => 4
  | .d => 3
  | .i => 2
  | .z => 1
  | .c => 0

theorem Flag.bit_lt (f : Flag) : f.bit < 8 := by cases f <;> decide

theorem Flag.mask_eq (f : Flag) : f.mask = BitVec.twoPow 8 f.bit := by cases f <;> rfl

theorem Flag.bit_inj {f g : Flag} (h : f.bit = g.bit) : f = g := by
  cases f <;> cases g <;> first | rfl | (exact absurd h (by decide))

/-- Reading a flag reads its bit (R27, R28). -/
theorem getFlag_eq_getLsbD (f : Flag) (p : Byte) : getFlag f p = p.getLsbD f.bit := by
  have hb := f.bit_lt
  have hp : BitVec.twoPow 8 f.bit ≠ 0#8 := by cases f <;> decide
  unfold getFlag
  rw [f.mask_eq, BitVec.and_twoPow]
  cases p.getLsbD f.bit <;> simp [hp]

/-- Writing a flag changes its bit and no other (R28). -/
theorem getLsbD_setFlag (f : Flag) (v : Bool) (p : Byte) (k : Nat) :
    (setFlag f v p).getLsbD k = if k = f.bit then v else p.getLsbD k := by
  have hb := f.bit_lt
  unfold setFlag
  rw [f.mask_eq]
  by_cases hk : k < 8
  · cases v <;> by_cases h : k = f.bit <;> simp_all
  · have hn : k ≠ f.bit := by omega
    rw [if_neg hn, BitVec.getLsbD_of_ge _ _ (by omega), BitVec.getLsbD_of_ge _ _ (by omega)]

/-- Set then get returns the boolean written (R28). -/
@[simp] theorem getFlag_setFlag_same (f : Flag) (v : Bool) (p : Byte) : getFlag f (setFlag f v p) = v := by
  rw [getFlag_eq_getLsbD, getLsbD_setFlag, if_pos rfl]

/-- A setter leaves the other flags alone (R28). -/
theorem getFlag_setFlag_of_ne {f g : Flag} (h : f ≠ g) (v : Bool) (p : Byte) :
    getFlag f (setFlag g v p) = getFlag f p := by
  rw [getFlag_eq_getLsbD, getLsbD_setFlag, if_neg (fun e => h (Flag.bit_inj e)), getFlag_eq_getLsbD]

/-- No setter writes bit 5 (R30). -/
@[simp] theorem setFlag_bit5 (f : Flag) (v : Bool) (p : Byte) : (setFlag f v p)[5] = p[5] := by
  have h := getLsbD_setFlag f v p 5
  rw [if_neg (by cases f <;> decide)] at h
  simpa using h

/-- `SetNZ` writes N (R29). -/
@[simp] theorem getFlag_setNZ_n (v p : Byte) : getFlag .n (setNZ v p) = v.getLsbD 7 := by
  simp [setNZ, getFlag_setFlag_of_ne (f := .n) (g := .z) (by decide)]

/-- `SetNZ` writes Z (R29). -/
@[simp] theorem getFlag_setNZ_z (v p : Byte) : getFlag .z (setNZ v p) = (v == 0) := by
  simp [setNZ]

/-- `SetNZ` leaves every other flag alone (R29). -/
theorem getFlag_setNZ_of_ne {f : Flag} (hn : f ≠ .n) (hz : f ≠ .z) (v p : Byte) :
    getFlag f (setNZ v p) = getFlag f p := by
  rw [setNZ, getFlag_setFlag_of_ne hz, getFlag_setFlag_of_ne hn]

/-- `SetNZ` leaves bit 5 alone (R30). -/
@[simp] theorem setNZ_bit5 (v p : Byte) : (setNZ v p)[5] = p[5] := by
  simp [setNZ]

/-- An arithmetic result leaves bit 5 alone (R175). -/
@[simp] theorem AluResult.setFlags_bit5 (r : AluResult) (p : Byte) : (r.setFlags p)[5] = p[5] := by
  simp [AluResult.setFlags]

/-- A compare leaves bit 5 alone (R177). -/
@[simp] theorem compareFlags_bit5 (r m p : Byte) : (compareFlags r m p)[5] = p[5] := by
  simp [compareFlags]

/-- PLP and RTI keep bits 5 and 4 (R30, R31). -/
theorem pulledStatus_kept (q p : Byte) : pulledStatus q p &&& keptBits = p &&& keptBits := by
  apply BitVec.eq_of_getLsbD_eq
  intro k hk
  simp only [pulledStatus, BitVec.getLsbD_and, BitVec.getLsbD_or, BitVec.getLsbD_not]
  cases keptBits.getLsbD k <;> simp [hk]

end Sys2Proof.Machine
end

