-- ==== Sys2Proof/Laws/State.lean ====
section
/-! SUPPORT. What each update of the state does to each field: true by rfl, so that no proof unfolds an update. -/

namespace Sys2Proof.Machine

variable (s : State)

@[simp] theorem State.write_pc (a : Addr) (v : Byte) : (s.write a v).pc = s.pc := rfl
@[simp] theorem State.write_sp (a : Addr) (v : Byte) : (s.write a v).sp = s.sp := rfl
@[simp] theorem State.write_a (a : Addr) (v : Byte) : (s.write a v).a = s.a := rfl
@[simp] theorem State.write_x (a : Addr) (v : Byte) : (s.write a v).x = s.x := rfl
@[simp] theorem State.write_y (a : Addr) (v : Byte) : (s.write a v).y = s.y := rfl
@[simp] theorem State.write_p (a : Addr) (v : Byte) : (s.write a v).p = s.p := rfl
@[simp] theorem State.write_mem (a : Addr) (v : Byte) : (s.write a v).mem = Memory.write s.mem a.toNat v := rfl
@[simp] theorem State.write_cycles (a : Addr) (v : Byte) : (s.write a v).cycles = s.cycles := rfl
@[simp] theorem State.write_status (a : Addr) (v : Byte) : (s.write a v).status = s.status := rfl
@[simp] theorem State.write_policy (a : Addr) (v : Byte) : (s.write a v).policy = s.policy := rfl

@[simp] theorem State.setPc_pc (v : Addr) : (s.setPc v).pc = v := rfl
@[simp] theorem State.setPc_sp (v : Addr) : (s.setPc v).sp = s.sp := rfl
@[simp] theorem State.setPc_a (v : Addr) : (s.setPc v).a = s.a := rfl
@[simp] theorem State.setPc_x (v : Addr) : (s.setPc v).x = s.x := rfl
@[simp] theorem State.setPc_y (v : Addr) : (s.setPc v).y = s.y := rfl
@[simp] theorem State.setPc_p (v : Addr) : (s.setPc v).p = s.p := rfl
@[simp] theorem State.setPc_mem (v : Addr) : (s.setPc v).mem = s.mem := rfl
@[simp] theorem State.setPc_cycles (v : Addr) : (s.setPc v).cycles = s.cycles := rfl
@[simp] theorem State.setPc_status (v : Addr) : (s.setPc v).status = s.status := rfl
@[simp] theorem State.setPc_policy (v : Addr) : (s.setPc v).policy = s.policy := rfl

@[simp] theorem State.setSp_pc (v : Byte) : (s.setSp v).pc = s.pc := rfl
@[simp] theorem State.setSp_sp (v : Byte) : (s.setSp v).sp = v := rfl
@[simp] theorem State.setSp_a (v : Byte) : (s.setSp v).a = s.a := rfl
@[simp] theorem State.setSp_x (v : Byte) : (s.setSp v).x = s.x := rfl
@[simp] theorem State.setSp_y (v : Byte) : (s.setSp v).y = s.y := rfl
@[simp] theorem State.setSp_p (v : Byte) : (s.setSp v).p = s.p := rfl
@[simp] theorem State.setSp_mem (v : Byte) : (s.setSp v).mem = s.mem := rfl
@[simp] theorem State.setSp_cycles (v : Byte) : (s.setSp v).cycles = s.cycles := rfl
@[simp] theorem State.setSp_status (v : Byte) : (s.setSp v).status = s.status := rfl
@[simp] theorem State.setSp_policy (v : Byte) : (s.setSp v).policy = s.policy := rfl

@[simp] theorem State.setA_pc (v : Byte) : (s.setA v).pc = s.pc := rfl
@[simp] theorem State.setA_sp (v : Byte) : (s.setA v).sp = s.sp := rfl
@[simp] theorem State.setA_a (v : Byte) : (s.setA v).a = v := rfl
@[simp] theorem State.setA_x (v : Byte) : (s.setA v).x = s.x := rfl
@[simp] theorem State.setA_y (v : Byte) : (s.setA v).y = s.y := rfl
@[simp] theorem State.setA_p (v : Byte) : (s.setA v).p = s.p := rfl
@[simp] theorem State.setA_mem (v : Byte) : (s.setA v).mem = s.mem := rfl
@[simp] theorem State.setA_cycles (v : Byte) : (s.setA v).cycles = s.cycles := rfl
@[simp] theorem State.setA_status (v : Byte) : (s.setA v).status = s.status := rfl
@[simp] theorem State.setA_policy (v : Byte) : (s.setA v).policy = s.policy := rfl

@[simp] theorem State.setX_pc (v : Byte) : (s.setX v).pc = s.pc := rfl
@[simp] theorem State.setX_sp (v : Byte) : (s.setX v).sp = s.sp := rfl
@[simp] theorem State.setX_a (v : Byte) : (s.setX v).a = s.a := rfl
@[simp] theorem State.setX_x (v : Byte) : (s.setX v).x = v := rfl
@[simp] theorem State.setX_y (v : Byte) : (s.setX v).y = s.y := rfl
@[simp] theorem State.setX_p (v : Byte) : (s.setX v).p = s.p := rfl
@[simp] theorem State.setX_mem (v : Byte) : (s.setX v).mem = s.mem := rfl
@[simp] theorem State.setX_cycles (v : Byte) : (s.setX v).cycles = s.cycles := rfl
@[simp] theorem State.setX_status (v : Byte) : (s.setX v).status = s.status := rfl
@[simp] theorem State.setX_policy (v : Byte) : (s.setX v).policy = s.policy := rfl

@[simp] theorem State.setY_pc (v : Byte) : (s.setY v).pc = s.pc := rfl
@[simp] theorem State.setY_sp (v : Byte) : (s.setY v).sp = s.sp := rfl
@[simp] theorem State.setY_a (v : Byte) : (s.setY v).a = s.a := rfl
@[simp] theorem State.setY_x (v : Byte) : (s.setY v).x = s.x := rfl
@[simp] theorem State.setY_y (v : Byte) : (s.setY v).y = v := rfl
@[simp] theorem State.setY_p (v : Byte) : (s.setY v).p = s.p := rfl
@[simp] theorem State.setY_mem (v : Byte) : (s.setY v).mem = s.mem := rfl
@[simp] theorem State.setY_cycles (v : Byte) : (s.setY v).cycles = s.cycles := rfl
@[simp] theorem State.setY_status (v : Byte) : (s.setY v).status = s.status := rfl
@[simp] theorem State.setY_policy (v : Byte) : (s.setY v).policy = s.policy := rfl

@[simp] theorem State.setP_pc (v : Byte) : (s.setP v).pc = s.pc := rfl
@[simp] theorem State.setP_sp (v : Byte) : (s.setP v).sp = s.sp := rfl
@[simp] theorem State.setP_a (v : Byte) : (s.setP v).a = s.a := rfl
@[simp] theorem State.setP_x (v : Byte) : (s.setP v).x = s.x := rfl
@[simp] theorem State.setP_y (v : Byte) : (s.setP v).y = s.y := rfl
@[simp] theorem State.setP_p (v : Byte) : (s.setP v).p = v := rfl
@[simp] theorem State.setP_mem (v : Byte) : (s.setP v).mem = s.mem := rfl
@[simp] theorem State.setP_cycles (v : Byte) : (s.setP v).cycles = s.cycles := rfl
@[simp] theorem State.setP_status (v : Byte) : (s.setP v).status = s.status := rfl
@[simp] theorem State.setP_policy (v : Byte) : (s.setP v).policy = s.policy := rfl

@[simp] theorem State.setStatus_pc (v : Status) : (s.setStatus v).pc = s.pc := rfl
@[simp] theorem State.setStatus_sp (v : Status) : (s.setStatus v).sp = s.sp := rfl
@[simp] theorem State.setStatus_a (v : Status) : (s.setStatus v).a = s.a := rfl
@[simp] theorem State.setStatus_x (v : Status) : (s.setStatus v).x = s.x := rfl
@[simp] theorem State.setStatus_y (v : Status) : (s.setStatus v).y = s.y := rfl
@[simp] theorem State.setStatus_p (v : Status) : (s.setStatus v).p = s.p := rfl
@[simp] theorem State.setStatus_mem (v : Status) : (s.setStatus v).mem = s.mem := rfl
@[simp] theorem State.setStatus_cycles (v : Status) : (s.setStatus v).cycles = s.cycles := rfl
@[simp] theorem State.setStatus_status (v : Status) : (s.setStatus v).status = v := rfl
@[simp] theorem State.setStatus_policy (v : Status) : (s.setStatus v).policy = s.policy := rfl

@[simp] theorem State.addCycles_pc (n : Nat) : (s.addCycles n).pc = s.pc := rfl
@[simp] theorem State.addCycles_sp (n : Nat) : (s.addCycles n).sp = s.sp := rfl
@[simp] theorem State.addCycles_a (n : Nat) : (s.addCycles n).a = s.a := rfl
@[simp] theorem State.addCycles_x (n : Nat) : (s.addCycles n).x = s.x := rfl
@[simp] theorem State.addCycles_y (n : Nat) : (s.addCycles n).y = s.y := rfl
@[simp] theorem State.addCycles_p (n : Nat) : (s.addCycles n).p = s.p := rfl
@[simp] theorem State.addCycles_mem (n : Nat) : (s.addCycles n).mem = s.mem := rfl
@[simp] theorem State.addCycles_cycles (n : Nat) : (s.addCycles n).cycles = s.cycles + n := rfl
@[simp] theorem State.addCycles_status (n : Nat) : (s.addCycles n).status = s.status := rfl
@[simp] theorem State.addCycles_policy (n : Nat) : (s.addCycles n).policy = s.policy := rfl

@[simp] theorem State.setFlag_pc (f : Flag) (v : Bool) : (s.setFlag f v).pc = s.pc := rfl
@[simp] theorem State.setFlag_sp (f : Flag) (v : Bool) : (s.setFlag f v).sp = s.sp := rfl
@[simp] theorem State.setFlag_a (f : Flag) (v : Bool) : (s.setFlag f v).a = s.a := rfl
@[simp] theorem State.setFlag_x (f : Flag) (v : Bool) : (s.setFlag f v).x = s.x := rfl
@[simp] theorem State.setFlag_y (f : Flag) (v : Bool) : (s.setFlag f v).y = s.y := rfl
@[simp] theorem State.setFlag_p (f : Flag) (v : Bool) : (s.setFlag f v).p = Machine.setFlag f v s.p := rfl
@[simp] theorem State.setFlag_mem (f : Flag) (v : Bool) : (s.setFlag f v).mem = s.mem := rfl
@[simp] theorem State.setFlag_cycles (f : Flag) (v : Bool) : (s.setFlag f v).cycles = s.cycles := rfl
@[simp] theorem State.setFlag_status (f : Flag) (v : Bool) : (s.setFlag f v).status = s.status := rfl
@[simp] theorem State.setFlag_policy (f : Flag) (v : Bool) : (s.setFlag f v).policy = s.policy := rfl

@[simp] theorem State.setNZ_pc (v : Byte) : (s.setNZ v).pc = s.pc := rfl
@[simp] theorem State.setNZ_sp (v : Byte) : (s.setNZ v).sp = s.sp := rfl
@[simp] theorem State.setNZ_a (v : Byte) : (s.setNZ v).a = s.a := rfl
@[simp] theorem State.setNZ_x (v : Byte) : (s.setNZ v).x = s.x := rfl
@[simp] theorem State.setNZ_y (v : Byte) : (s.setNZ v).y = s.y := rfl
@[simp] theorem State.setNZ_p (v : Byte) : (s.setNZ v).p = Machine.setNZ v s.p := rfl
@[simp] theorem State.setNZ_mem (v : Byte) : (s.setNZ v).mem = s.mem := rfl
@[simp] theorem State.setNZ_cycles (v : Byte) : (s.setNZ v).cycles = s.cycles := rfl
@[simp] theorem State.setNZ_status (v : Byte) : (s.setNZ v).status = s.status := rfl
@[simp] theorem State.setNZ_policy (v : Byte) : (s.setNZ v).policy = s.policy := rfl

@[simp] theorem State.compare_pc (r m : Byte) : (s.compare r m).pc = s.pc := rfl
@[simp] theorem State.compare_sp (r m : Byte) : (s.compare r m).sp = s.sp := rfl
@[simp] theorem State.compare_a (r m : Byte) : (s.compare r m).a = s.a := rfl
@[simp] theorem State.compare_x (r m : Byte) : (s.compare r m).x = s.x := rfl
@[simp] theorem State.compare_y (r m : Byte) : (s.compare r m).y = s.y := rfl
@[simp] theorem State.compare_p (r m : Byte) : (s.compare r m).p = compareFlags r m s.p := rfl
@[simp] theorem State.compare_mem (r m : Byte) : (s.compare r m).mem = s.mem := rfl
@[simp] theorem State.compare_cycles (r m : Byte) : (s.compare r m).cycles = s.cycles := rfl
@[simp] theorem State.compare_status (r m : Byte) : (s.compare r m).status = s.status := rfl
@[simp] theorem State.compare_policy (r m : Byte) : (s.compare r m).policy = s.policy := rfl

@[simp] theorem State.setAlu_pc (r : AluResult) : (s.setAlu r).pc = s.pc := rfl
@[simp] theorem State.setAlu_sp (r : AluResult) : (s.setAlu r).sp = s.sp := rfl
@[simp] theorem State.setAlu_a (r : AluResult) : (s.setAlu r).a = r.value := rfl
@[simp] theorem State.setAlu_x (r : AluResult) : (s.setAlu r).x = s.x := rfl
@[simp] theorem State.setAlu_y (r : AluResult) : (s.setAlu r).y = s.y := rfl
@[simp] theorem State.setAlu_p (r : AluResult) : (s.setAlu r).p = r.setFlags s.p := rfl
@[simp] theorem State.setAlu_mem (r : AluResult) : (s.setAlu r).mem = s.mem := rfl
@[simp] theorem State.setAlu_cycles (r : AluResult) : (s.setAlu r).cycles = s.cycles := rfl
@[simp] theorem State.setAlu_status (r : AluResult) : (s.setAlu r).status = s.status := rfl
@[simp] theorem State.setAlu_policy (r : AluResult) : (s.setAlu r).policy = s.policy := rfl

@[simp] theorem State.push_pc (v : Byte) : (s.push v).pc = s.pc := rfl
@[simp] theorem State.push_sp (v : Byte) : (s.push v).sp = s.sp - 1 := rfl
@[simp] theorem State.push_a (v : Byte) : (s.push v).a = s.a := rfl
@[simp] theorem State.push_x (v : Byte) : (s.push v).x = s.x := rfl
@[simp] theorem State.push_y (v : Byte) : (s.push v).y = s.y := rfl
@[simp] theorem State.push_p (v : Byte) : (s.push v).p = s.p := rfl
@[simp] theorem State.push_mem (v : Byte) : (s.push v).mem = Memory.write s.mem (stackAddr s.sp).toNat v := rfl
@[simp] theorem State.push_cycles (v : Byte) : (s.push v).cycles = s.cycles := rfl
@[simp] theorem State.push_status (v : Byte) : (s.push v).status = s.status := rfl
@[simp] theorem State.push_policy (v : Byte) : (s.push v).policy = s.policy := rfl

@[simp] theorem State.pull_pc : (s.pull).pc = s.pc := rfl
@[simp] theorem State.pull_sp : (s.pull).sp = s.sp + 1 := rfl
@[simp] theorem State.pull_a : (s.pull).a = s.a := rfl
@[simp] theorem State.pull_x : (s.pull).x = s.x := rfl
@[simp] theorem State.pull_y : (s.pull).y = s.y := rfl
@[simp] theorem State.pull_p : (s.pull).p = s.p := rfl
@[simp] theorem State.pull_mem : (s.pull).mem = s.mem := rfl
@[simp] theorem State.pull_cycles : (s.pull).cycles = s.cycles := rfl
@[simp] theorem State.pull_status : (s.pull).status = s.status := rfl
@[simp] theorem State.pull_policy : (s.pull).policy = s.policy := rfl

@[simp] theorem State.takeIllegalOpcode_pc (o : Byte) : (s.takeIllegalOpcode o).pc = s.pc + 1 := rfl
@[simp] theorem State.takeIllegalOpcode_sp (o : Byte) : (s.takeIllegalOpcode o).sp = s.sp := rfl
@[simp] theorem State.takeIllegalOpcode_a (o : Byte) : (s.takeIllegalOpcode o).a = s.a := rfl
@[simp] theorem State.takeIllegalOpcode_x (o : Byte) : (s.takeIllegalOpcode o).x = s.x := rfl
@[simp] theorem State.takeIllegalOpcode_y (o : Byte) : (s.takeIllegalOpcode o).y = s.y := rfl
@[simp] theorem State.takeIllegalOpcode_p (o : Byte) : (s.takeIllegalOpcode o).p = s.p := rfl
@[simp] theorem State.takeIllegalOpcode_mem (o : Byte) : (s.takeIllegalOpcode o).mem = s.mem := rfl
@[simp] theorem State.takeIllegalOpcode_cycles (o : Byte) : (s.takeIllegalOpcode o).cycles = s.cycles := rfl
@[simp] theorem State.takeIllegalOpcode_status (o : Byte) : (s.takeIllegalOpcode o).status = .faulted o s.pc := rfl
@[simp] theorem State.takeIllegalOpcode_policy (o : Byte) : (s.takeIllegalOpcode o).policy = s.policy := rfl

@[simp] theorem State.takeRefusal_pc (r : RefusalReason) (o : Byte) : (s.takeRefusal r o).pc = s.pc := rfl
@[simp] theorem State.takeRefusal_sp (r : RefusalReason) (o : Byte) : (s.takeRefusal r o).sp = s.sp := rfl
@[simp] theorem State.takeRefusal_a (r : RefusalReason) (o : Byte) : (s.takeRefusal r o).a = s.a := rfl
@[simp] theorem State.takeRefusal_x (r : RefusalReason) (o : Byte) : (s.takeRefusal r o).x = s.x := rfl
@[simp] theorem State.takeRefusal_y (r : RefusalReason) (o : Byte) : (s.takeRefusal r o).y = s.y := rfl
@[simp] theorem State.takeRefusal_p (r : RefusalReason) (o : Byte) : (s.takeRefusal r o).p = s.p := rfl
@[simp] theorem State.takeRefusal_mem (r : RefusalReason) (o : Byte) : (s.takeRefusal r o).mem = s.mem := rfl
@[simp] theorem State.takeRefusal_cycles (r : RefusalReason) (o : Byte) : (s.takeRefusal r o).cycles = s.cycles := rfl
@[simp] theorem State.takeRefusal_status (r : RefusalReason) (o : Byte) : (s.takeRefusal r o).status = .refused r o s.pc := rfl
@[simp] theorem State.takeRefusal_policy (r : RefusalReason) (o : Byte) : (s.takeRefusal r o).policy = s.policy := rfl

@[simp] theorem State.takeBreak_pc : (s.takeBreak).pc = s.pc := rfl
@[simp] theorem State.takeBreak_sp : (s.takeBreak).sp = s.sp := rfl
@[simp] theorem State.takeBreak_a : (s.takeBreak).a = s.a := rfl
@[simp] theorem State.takeBreak_x : (s.takeBreak).x = s.x := rfl
@[simp] theorem State.takeBreak_y : (s.takeBreak).y = s.y := rfl
@[simp] theorem State.takeBreak_p : (s.takeBreak).p = Machine.setFlag .b true s.p := rfl
@[simp] theorem State.takeBreak_mem : (s.takeBreak).mem = s.mem := rfl
@[simp] theorem State.takeBreak_cycles : (s.takeBreak).cycles = s.cycles := rfl
@[simp] theorem State.takeBreak_status : (s.takeBreak).status = .halted .brk := rfl
@[simp] theorem State.takeBreak_policy : (s.takeBreak).policy = s.policy := rfl

@[simp] theorem State.begun_pc (i : Instr) : (s.begun i).pc = s.pc + BitVec.ofNat 16 i.length := rfl
@[simp] theorem State.begun_sp (i : Instr) : (s.begun i).sp = s.sp := rfl
@[simp] theorem State.begun_a (i : Instr) : (s.begun i).a = s.a := rfl
@[simp] theorem State.begun_x (i : Instr) : (s.begun i).x = s.x := rfl
@[simp] theorem State.begun_y (i : Instr) : (s.begun i).y = s.y := rfl
@[simp] theorem State.begun_p (i : Instr) : (s.begun i).p = s.p := rfl
@[simp] theorem State.begun_mem (i : Instr) : (s.begun i).mem = s.mem := rfl
@[simp] theorem State.begun_cycles (i : Instr) : (s.begun i).cycles = s.cycles + s.cost i := rfl
@[simp] theorem State.begun_status (i : Instr) : (s.begun i).status = s.status := rfl
@[simp] theorem State.begun_policy (i : Instr) : (s.begun i).policy = s.policy := rfl

/-- Reading depends on memory alone (R51). -/
theorem State.read_of_mem (t : State) (a : Addr) (h : t.mem = s.mem) : t.read a = s.read a := by
  simp [State.read, h]

end Sys2Proof.Machine
end

