-- ==== Sys2Proof/Laws/Memory.lean ====
section
/-! SUPPORT. The laws of memory (20_memory.md R50 to R62): a write is read back, leaves every other byte alone, and keeps
the canonical form. -/

namespace Sys2Proof.Machine

@[simp] theorem Memory.read_nil (a : Nat) : Memory.read [] a = Memory.unlisted := rfl

@[simp] theorem Memory.read_entry (b : Nat) (w : Byte) (m : Memory) (a : Nat) :
    Memory.read ((b, w) :: m) a = if a = b then w else Memory.read m a := rfl

/-- Reading past a form that starts higher finds nothing listed. -/
theorem Memory.read_below {lo : Nat} {m : Memory} (h : Memory.wfFrom lo m = true) {a : Nat} (ha : a < lo) :
    Memory.read m a = Memory.unlisted := by
  induction m generalizing lo with
  | nil => rfl
  | cons e m ih =>
    obtain ⟨b, w⟩ := e
    simp only [Memory.wfFrom, Bool.and_eq_true, decide_eq_true_eq] at h
    simp only [Memory.read_entry]
    rw [if_neg (by omega)]
    exact ih h.2 (by omega)

/-- A form from `lo` is a form from anything lower. -/
theorem Memory.wfFrom_mono {lo lo' : Nat} (hle : lo' ≤ lo) {m : Memory} (h : Memory.wfFrom lo m = true) :
    Memory.wfFrom lo' m = true := by
  cases m with
  | nil => rfl
  | cons e m =>
    obtain ⟨b, w⟩ := e
    simp only [Memory.wfFrom, Bool.and_eq_true, decide_eq_true_eq] at h ⊢
    exact ⟨⟨⟨by omega, h.1.1.2⟩, h.1.2⟩, h.2⟩

theorem Memory.read_cons (a b : Nat) (v : Byte) (m : Memory) (hm : Memory.read m a = Memory.unlisted) :
    Memory.read (Memory.cons a v m) b = if b = a then v else Memory.read m b := by
  unfold Memory.cons
  split
  · subst_vars
    split
    · subst_vars; exact hm
    · rfl
  · rfl

theorem Memory.read_cons_of_ne {a b : Nat} (hab : b ≠ a) (v : Byte) (m : Memory) :
    Memory.read (Memory.cons a v m) b = Memory.read m b := by
  unfold Memory.cons
  split <;> simp [hab]

theorem Memory.wfFrom_cons {lo a : Nat} {v : Byte} {m : Memory} (hlo : lo ≤ a) (ha : a < 65536)
    (h : Memory.wfFrom (a + 1) m = true) : Memory.wfFrom lo (Memory.cons a v m) = true := by
  unfold Memory.cons
  split
  · exact Memory.wfFrom_mono (by omega) h
  · next hv => simp [Memory.wfFrom, hlo, ha, hv, h]

/-- A write leaves every other address alone, in any list. -/
theorem Memory.read_write_of_ne (m : Memory) {a b : Nat} (hab : b ≠ a) (v : Byte) :
    Memory.read (Memory.write m a v) b = Memory.read m b := by
  induction m with
  | nil => exact Memory.read_cons_of_ne hab v []
  | cons e m ih =>
    obtain ⟨k, w⟩ := e
    unfold Memory.write
    split
    · exact Memory.read_cons_of_ne hab v _
    · split
      · next h => rw [Memory.read_cons_of_ne hab, Memory.read_entry, if_neg (by omega)]
      · simp [ih]

/-- A write is read back, in the canonical form. -/
theorem Memory.read_write_same {lo : Nat} {m : Memory} (h : Memory.wfFrom lo m = true) (a : Nat) (v : Byte) :
    Memory.read (Memory.write m a v) a = v := by
  induction m generalizing lo with
  | nil => rw [Memory.write, Memory.read_cons a a v [] rfl, if_pos rfl]
  | cons e m ih =>
    obtain ⟨k, w⟩ := e
    have hk := h
    simp only [Memory.wfFrom, Bool.and_eq_true, decide_eq_true_eq] at hk
    unfold Memory.write
    split
    · next hlt =>
      rw [Memory.read_cons _ _ _ _ (Memory.read_below (lo := k) (by simp [Memory.wfFrom, hk]) hlt), if_pos rfl]
    · split
      · next he => rw [Memory.read_cons _ _ _ _ (Memory.read_below hk.2 (by omega)), if_pos rfl]
      · next hne => rw [Memory.read_entry, if_neg hne]; exact ih hk.2

/-- A write keeps the canonical form. -/
theorem Memory.wfFrom_write {lo : Nat} {m : Memory} (h : Memory.wfFrom lo m = true) {a : Nat} (hlo : lo ≤ a)
    (ha : a < 65536) (v : Byte) : Memory.wfFrom lo (Memory.write m a v) = true := by
  induction m generalizing lo with
  | nil => exact Memory.wfFrom_cons hlo ha rfl
  | cons e m ih =>
    obtain ⟨k, w⟩ := e
    have hk := h
    simp only [Memory.wfFrom, Bool.and_eq_true, decide_eq_true_eq] at hk
    unfold Memory.write
    split
    · exact Memory.wfFrom_cons hlo ha (by simp [Memory.wfFrom, hk]; omega)
    · split
      · next he => exact Memory.wfFrom_cons hlo ha (by rw [he]; exact hk.2)
      · simp [Memory.wfFrom, hk, ih hk.2 (by omega)]

/-- Every memory operation keeps the canonical form: there is one, the byte write. -/
theorem Memory.wf_write {m : Memory} (h : Memory.wf m = true) (a : Addr) (v : Byte) :
    Memory.wf (Memory.write m a.toNat v) = true :=
  Memory.wfFrom_write h (Nat.zero_le _) a.isLt v

/-- The memory of the reset state is in the form. -/
theorem reset_mem_wf : Memory.wf State.reset.mem = true := rfl

/-- What a byte write does to the bytes of memory (R52). -/
theorem State.read_write (s : State) (h : Memory.wf s.mem = true) (a b : Addr) (v : Byte) :
    (s.write a v).read b = if b = a then v else s.read b := by
  simp only [State.read, State.write_mem]
  split
  · next hb => rw [hb]; exact Memory.read_write_same h _ v
  · next hb => exact Memory.read_write_of_ne _ (fun e => hb (BitVec.eq_of_toNat_eq e)) v

/-- A byte write leaves every other byte alone, in any state (R52). -/
theorem State.read_write_of_ne (s : State) {a b : Addr} (hb : b ≠ a) (v : Byte) : (s.write a v).read b = s.read b :=
  Memory.read_write_of_ne _ (fun e => hb (BitVec.eq_of_toNat_eq e)) v

/-- `Pull()` right after `Push(v)` returns `v` (R61). -/
theorem State.pulled_push (s : State) (h : Memory.wf s.mem = true) (v : Byte) : (s.push v).pulled = v := by
  have e : (s.push v).pulled = (s.write (stackAddr s.sp) v).read (stackAddr (s.sp - 1 + 1)) := rfl
  rw [e, BitVec.sub_add_cancel, State.read_write s h, if_pos rfl]

/-- `Push` then `Pull` gives the stack pointer back (R61). -/
theorem State.pull_push_sp (s : State) (v : Byte) : (s.push v).pull.sp = s.sp := by
  simp

end Sys2Proof.Machine
end

