-- ==== Sys2Proof/Laws/Operands.lean ====
section
/-! SUPPORT. What the operand accesses depend on and change (30_encoding.md R101), and which set a mnemonic's rows are in
(R103 to R106). -/

namespace Sys2Proof.Machine

/-- An operand reads the same in two states with the same A and memory (R101). -/
theorem readOperand_congr {s t : State} (ha : t.a = s.a) (hm : t.mem = s.mem) (o : Operand) :
    readOperand t o = readOperand s o := by
  cases o <;> simp [readOperand, ha, State.read, hm]

/-- Advancing `PC` and charging cycles changes no operand (R84, R101). -/
@[simp] theorem readOperand_begun (s : State) (i : Instr) (o : Operand) :
    readOperand (s.begun i) o = readOperand s o :=
  readOperand_congr rfl rfl o

/-- Advancing `PC` and charging cycles changes no flag. -/
@[simp] theorem begun_flag (s : State) (i : Instr) (f : Flag) : (s.begun i).flag f = s.flag f := rfl

/-- Everything `writeOperand` can do: write A, write one byte, or, where R101 does not apply it, nothing. -/
theorem writeOperand_cases (s : State) (v : Byte) (o : Operand) :
    (o = .acc ∧ writeOperand s v o = s.setA v) ∨ (∃ ea, o = .mem ea ∧ writeOperand s v o = s.write ea v) ∨
    (o ≠ .acc ∧ (∀ ea, o ≠ .mem ea) ∧ writeOperand s v o = s) := by
  cases o <;> simp [writeOperand]

/-- Writing an operand changes only A and memory (R101). -/
theorem writeOperand_frame (s : State) (v : Byte) (o : Operand) :
    writeOperand s v o = { s with a := (writeOperand s v o).a, mem := (writeOperand s v o).mem } := by
  cases o <;> rfl

/-- Only the accumulator operand is written to A (R101). -/
theorem writeOperand_a_of_ne (s : State) (v : Byte) {o : Operand} (h : o ≠ .acc) : (writeOperand s v o).a = s.a := by
  cases o <;> first | rfl | exact absurd rfl h

/-- Writing an operand keeps the canonical form of memory. -/
theorem writeOperand_wf (s : State) (v : Byte) (o : Operand) (h : Memory.wf s.mem = true) :
    Memory.wf (writeOperand s v o).mem = true := by
  cases o <;> first | exact h | exact Memory.wf_write h _ _

/-- The set of a mnemonic's rows: one set each, but for NOP and SBC, which have legal and illegal rows. -/
theorem set_of_mnemonic (i : Instr) :
    match i.mnemonic with
    | .slo | .rla | .sre | .rra | .dcp | .isc | .sax | .lax | .anc | .alr | .arr | .sbx => i.descriptor.set = .illegal
    | .jam | .ane | .lxa | .sha | .tas | .shy | .shx | .las => i.descriptor.set = .unmapped
    | .nop | .sbc => i.descriptor.set ≠ .unmapped
    | _ => i.descriptor.set = .legal := by
  cases i <;> first | rfl | exact OpSet.noConfusion

/-- A legal row is mapped under every setting (R103). -/
theorem mapped_of_legal {i : Instr} (h : i.descriptor.set = .legal) (p : Policy) : i.mapped p = true := by
  simp [Instr.mapped, h]

/-- A stable illegal row is mapped under `P_ILLEGAL = Stable` (R104). -/
theorem mapped_of_stable {i : Instr} (h : i.descriptor.set ≠ .unmapped) {p : Policy} (hp : p.illegal = .stable) :
    i.mapped p = true := by
  unfold Instr.mapped
  cases hs : i.descriptor.set <;> simp_all

end Sys2Proof.Machine
end

