-- ==== Sys2Proof/Laws/Effects.lean ====
section
/-! SUPPORT. What the operations that several instructions share do to each field: the branch (44_control.md R220), the
operand write (30_encoding.md R101), the shifts (43_logic_shift.md R200), the stack words and RTI (R230 to R232). -/

namespace Sys2Proof.Machine

variable (s : State)

/-- Two addresses are on different pages exactly when their page numbers differ (20_memory.md, 00_scope.md R11). -/
theorem crossesPage_iff (a b : Addr) : crossesPage a b = true ↔ a.toNat / 256 ≠ b.toNat / 256 := by
  simp only [crossesPage, bne_iff_ne, ne_eq, ← highByte_toNat]
  exact not_congr ⟨fun h => by rw [h], fun h => BitVec.eq_of_toNat_eq h⟩

/-- Everything a branch can do: nothing, or go to the target and charge 1 or 2 cycles (R220). -/
theorem branch_cases (c : State → Bool) (o : Operand) :
    branch c o s = s ∨ ∃ target n, o = .rel target ∧ (n = 1 ∨ n = 2) ∧ branch c o s = (s.addCycles n).setPc target := by
  cases o with
  | rel target =>
    unfold branch
    by_cases h : c s = true
    · refine .inr ⟨target, 1 + if crossesPage target s.pc then 1 else 0, rfl, ?_, by simp only [h, if_true]⟩
      split <;> simp
    · exact .inl (by simp only [h]; rfl)
  | _ => exact .inl rfl

@[simp] theorem branch_sp (c : State → Bool) (o : Operand) : (branch c o s).sp = s.sp := by
  rcases branch_cases s c o with h | ⟨_, _, _, _, h⟩ <;> simp [h]

@[simp] theorem branch_a (c : State → Bool) (o : Operand) : (branch c o s).a = s.a := by
  rcases branch_cases s c o with h | ⟨_, _, _, _, h⟩ <;> simp [h]

@[simp] theorem branch_x (c : State → Bool) (o : Operand) : (branch c o s).x = s.x := by
  rcases branch_cases s c o with h | ⟨_, _, _, _, h⟩ <;> simp [h]

@[simp] theorem branch_y (c : State → Bool) (o : Operand) : (branch c o s).y = s.y := by
  rcases branch_cases s c o with h | ⟨_, _, _, _, h⟩ <;> simp [h]

@[simp] theorem branch_p (c : State → Bool) (o : Operand) : (branch c o s).p = s.p := by
  rcases branch_cases s c o with h | ⟨_, _, _, _, h⟩ <;> simp [h]

@[simp] theorem branch_mem (c : State → Bool) (o : Operand) : (branch c o s).mem = s.mem := by
  rcases branch_cases s c o with h | ⟨_, _, _, _, h⟩ <;> simp [h]

@[simp] theorem branch_status (c : State → Bool) (o : Operand) : (branch c o s).status = s.status := by
  rcases branch_cases s c o with h | ⟨_, _, _, _, h⟩ <;> simp [h]

@[simp] theorem branch_policy (c : State → Bool) (o : Operand) : (branch c o s).policy = s.policy := by
  rcases branch_cases s c o with h | ⟨_, _, _, _, h⟩ <;> simp [h]

@[simp] theorem writeOperand_pc (v : Byte) (o : Operand) : (writeOperand s v o).pc = s.pc := by
  cases o <;> rfl

@[simp] theorem writeOperand_sp (v : Byte) (o : Operand) : (writeOperand s v o).sp = s.sp := by
  cases o <;> rfl

@[simp] theorem writeOperand_x (v : Byte) (o : Operand) : (writeOperand s v o).x = s.x := by
  cases o <;> rfl

@[simp] theorem writeOperand_y (v : Byte) (o : Operand) : (writeOperand s v o).y = s.y := by
  cases o <;> rfl

@[simp] theorem writeOperand_p (v : Byte) (o : Operand) : (writeOperand s v o).p = s.p := by
  cases o <;> rfl

@[simp] theorem writeOperand_cycles (v : Byte) (o : Operand) : (writeOperand s v o).cycles = s.cycles := by
  cases o <;> rfl

@[simp] theorem writeOperand_status (v : Byte) (o : Operand) : (writeOperand s v o).status = s.status := by
  cases o <;> rfl

@[simp] theorem writeOperand_policy (v : Byte) (o : Operand) : (writeOperand s v o).policy = s.policy := by
  cases o <;> rfl

@[simp] theorem State.writeShifted_pc (o : Operand) (rc : Byte × Bool) : (s.writeShifted o rc).pc = s.pc := by
  cases o <;> rfl

@[simp] theorem State.writeShifted_sp (o : Operand) (rc : Byte × Bool) : (s.writeShifted o rc).sp = s.sp := by
  cases o <;> rfl

@[simp] theorem State.writeShifted_x (o : Operand) (rc : Byte × Bool) : (s.writeShifted o rc).x = s.x := by
  cases o <;> rfl

@[simp] theorem State.writeShifted_y (o : Operand) (rc : Byte × Bool) : (s.writeShifted o rc).y = s.y := by
  cases o <;> rfl

@[simp] theorem State.writeShifted_cycles (o : Operand) (rc : Byte × Bool) : (s.writeShifted o rc).cycles = s.cycles := by
  cases o <;> rfl

@[simp] theorem State.writeShifted_status (o : Operand) (rc : Byte × Bool) : (s.writeShifted o rc).status = s.status := by
  cases o <;> rfl

@[simp] theorem State.writeShifted_policy (o : Operand) (rc : Byte × Bool) : (s.writeShifted o rc).policy = s.policy := by
  cases o <;> rfl

@[simp] theorem State.writeShifted_a (o : Operand) (rc : Byte × Bool) :
    (s.writeShifted o rc).a = (writeOperand s rc.1 o).a := rfl

@[simp] theorem State.writeShifted_mem (o : Operand) (rc : Byte × Bool) :
    (s.writeShifted o rc).mem = (writeOperand s rc.1 o).mem := rfl

@[simp] theorem State.writeShifted_p (o : Operand) (rc : Byte × Bool) :
    (s.writeShifted o rc).p = Machine.setNZ rc.1 (Machine.setFlag .c rc.2 s.p) := by
  cases o <;> rfl

@[simp] theorem State.pushWord_pc (w : Addr) : (s.pushWord w).pc = s.pc := rfl
@[simp] theorem State.pushWord_sp (w : Addr) : (s.pushWord w).sp = s.sp - 1 - 1 := rfl
@[simp] theorem State.pushWord_a (w : Addr) : (s.pushWord w).a = s.a := rfl
@[simp] theorem State.pushWord_x (w : Addr) : (s.pushWord w).x = s.x := rfl
@[simp] theorem State.pushWord_y (w : Addr) : (s.pushWord w).y = s.y := rfl
@[simp] theorem State.pushWord_p (w : Addr) : (s.pushWord w).p = s.p := rfl
@[simp] theorem State.pushWord_mem (w : Addr) : (s.pushWord w).mem = ((s.push (highByte w)).push (lowByte w)).mem := rfl
@[simp] theorem State.pushWord_cycles (w : Addr) : (s.pushWord w).cycles = s.cycles := rfl
@[simp] theorem State.pushWord_status (w : Addr) : (s.pushWord w).status = s.status := rfl
@[simp] theorem State.pushWord_policy (w : Addr) : (s.pushWord w).policy = s.policy := rfl

@[simp] theorem State.pullWord_pc : s.pullWord.pc = s.pc := rfl
@[simp] theorem State.pullWord_sp : s.pullWord.sp = s.sp + 1 + 1 := rfl
@[simp] theorem State.pullWord_a : s.pullWord.a = s.a := rfl
@[simp] theorem State.pullWord_x : s.pullWord.x = s.x := rfl
@[simp] theorem State.pullWord_y : s.pullWord.y = s.y := rfl
@[simp] theorem State.pullWord_p : s.pullWord.p = s.p := rfl
@[simp] theorem State.pullWord_mem : s.pullWord.mem = s.mem := rfl
@[simp] theorem State.pullWord_cycles : s.pullWord.cycles = s.cycles := rfl
@[simp] theorem State.pullWord_status : s.pullWord.status = s.status := rfl
@[simp] theorem State.pullWord_policy : s.pullWord.policy = s.policy := rfl

@[simp] theorem State.returnFromInterrupt_pc : s.returnFromInterrupt.pc = s.pull.pulledWord := rfl
@[simp] theorem State.returnFromInterrupt_sp : s.returnFromInterrupt.sp = s.sp + 1 + 1 + 1 := rfl
@[simp] theorem State.returnFromInterrupt_a : s.returnFromInterrupt.a = s.a := rfl
@[simp] theorem State.returnFromInterrupt_x : s.returnFromInterrupt.x = s.x := rfl
@[simp] theorem State.returnFromInterrupt_y : s.returnFromInterrupt.y = s.y := rfl
@[simp] theorem State.returnFromInterrupt_p : s.returnFromInterrupt.p = pulledStatus s.pulled s.p := rfl
@[simp] theorem State.returnFromInterrupt_mem : s.returnFromInterrupt.mem = s.mem := rfl
@[simp] theorem State.returnFromInterrupt_cycles : s.returnFromInterrupt.cycles = s.cycles := rfl
@[simp] theorem State.returnFromInterrupt_status : s.returnFromInterrupt.status = s.status := rfl
@[simp] theorem State.returnFromInterrupt_policy : s.returnFromInterrupt.policy = s.policy := rfl

end Sys2Proof.Machine
end

