-- ==== Sys2Proof/Laws/PerInstr.lean ====
section
/-! SUPPORT. Per-instruction law EncodedLength: the encoding of every instruction begins with its opcode byte, and has the
length of its mode, from 1 to 3 bytes (30_encoding.md R80, R81). -/

namespace Sys2Proof.Laws

/-- The encoding starts with the opcode and has 1 to 3 bytes, as many as the mode gives. -/
def EncodedLength.Statement (i : Instr) : Prop :=
  (encode i).head? = some i.opcode ∧ (encode i).length = i.length ∧ 1 ≤ i.length ∧ i.length ≤ 3

/-- The law holds of a mode, whatever the opcode. -/
theorem AddrMode.operandBytes_length (m : AddrMode) :
    m.operandBytes.length + 1 = m.length ∧ 1 ≤ m.length ∧ m.length ≤ 3 := by
  cases m <;> simp [AddrMode.operandBytes, AddrMode.length]

theorem EncodedLength.ofMode (i : Instr) : EncodedLength.Statement i := by
  have h := AddrMode.operandBytes_length i.mode
  exact ⟨rfl, by simpa [encode, Instr.length] using h.1, h.2⟩

namespace EncodedLength

theorem brk : Statement .brk := ofMode _
theorem oraIndX (zp : Byte) : Statement (.oraIndX zp) := ofMode _
theorem jam (op : JamOpcode) : Statement (.jam op) := ofMode _
theorem sloIndX (zp : Byte) : Statement (.sloIndX zp) := ofMode _
theorem nopZp04 (zp : Byte) : Statement (.nopZp04 zp) := ofMode _
theorem oraZp (zp : Byte) : Statement (.oraZp zp) := ofMode _
theorem aslZp (zp : Byte) : Statement (.aslZp zp) := ofMode _
theorem sloZp (zp : Byte) : Statement (.sloZp zp) := ofMode _
theorem php : Statement .php := ofMode _
theorem oraImm (v : Byte) : Statement (.oraImm v) := ofMode _
theorem aslAcc : Statement .aslAcc := ofMode _
theorem ancImm0B (v : Byte) : Statement (.ancImm0B v) := ofMode _
theorem nopAbs0C (addr : Addr) : Statement (.nopAbs0C addr) := ofMode _
theorem oraAbs (addr : Addr) : Statement (.oraAbs addr) := ofMode _
theorem aslAbs (addr : Addr) : Statement (.aslAbs addr) := ofMode _
theorem sloAbs (addr : Addr) : Statement (.sloAbs addr) := ofMode _
theorem bpl (off : Byte) : Statement (.bpl off) := ofMode _
theorem oraIndY (zp : Byte) : Statement (.oraIndY zp) := ofMode _
theorem sloIndY (zp : Byte) : Statement (.sloIndY zp) := ofMode _
theorem nopZpX14 (zp : Byte) : Statement (.nopZpX14 zp) := ofMode _
theorem oraZpX (zp : Byte) : Statement (.oraZpX zp) := ofMode _
theorem aslZpX (zp : Byte) : Statement (.aslZpX zp) := ofMode _
theorem sloZpX (zp : Byte) : Statement (.sloZpX zp) := ofMode _
theorem clc : Statement .clc := ofMode _
theorem oraAbsY (addr : Addr) : Statement (.oraAbsY addr) := ofMode _
theorem nopImp1A : Statement .nopImp1A := ofMode _
theorem sloAbsY (addr : Addr) : Statement (.sloAbsY addr) := ofMode _
theorem nopAbsX1C (addr : Addr) : Statement (.nopAbsX1C addr) := ofMode _
theorem oraAbsX (addr : Addr) : Statement (.oraAbsX addr) := ofMode _
theorem aslAbsX (addr : Addr) : Statement (.aslAbsX addr) := ofMode _
theorem sloAbsX (addr : Addr) : Statement (.sloAbsX addr) := ofMode _
theorem jsrAbs (addr : Addr) : Statement (.jsrAbs addr) := ofMode _
theorem andIndX (zp : Byte) : Statement (.andIndX zp) := ofMode _
theorem rlaIndX (zp : Byte) : Statement (.rlaIndX zp) := ofMode _
theorem bitZp (zp : Byte) : Statement (.bitZp zp) := ofMode _
theorem andZp (zp : Byte) : Statement (.andZp zp) := ofMode _
theorem rolZp (zp : Byte) : Statement (.rolZp zp) := ofMode _
theorem rlaZp (zp : Byte) : Statement (.rlaZp zp) := ofMode _
theorem plp : Statement .plp := ofMode _
theorem andImm (v : Byte) : Statement (.andImm v) := ofMode _
theorem rolAcc : Statement .rolAcc := ofMode _
theorem ancImm2B (v : Byte) : Statement (.ancImm2B v) := ofMode _
theorem bitAbs (addr : Addr) : Statement (.bitAbs addr) := ofMode _
theorem andAbs (addr : Addr) : Statement (.andAbs addr) := ofMode _
theorem rolAbs (addr : Addr) : Statement (.rolAbs addr) := ofMode _
theorem rlaAbs (addr : Addr) : Statement (.rlaAbs addr) := ofMode _
theorem bmi (off : Byte) : Statement (.bmi off) := ofMode _
theorem andIndY (zp : Byte) : Statement (.andIndY zp) := ofMode _
theorem rlaIndY (zp : Byte) : Statement (.rlaIndY zp) := ofMode _
theorem nopZpX34 (zp : Byte) : Statement (.nopZpX34 zp) := ofMode _
theorem andZpX (zp : Byte) : Statement (.andZpX zp) := ofMode _
theorem rolZpX (zp : Byte) : Statement (.rolZpX zp) := ofMode _
theorem rlaZpX (zp : Byte) : Statement (.rlaZpX zp) := ofMode _
theorem sec : Statement .sec := ofMode _
theorem andAbsY (addr : Addr) : Statement (.andAbsY addr) := ofMode _
theorem nopImp3A : Statement .nopImp3A := ofMode _
theorem rlaAbsY (addr : Addr) : Statement (.rlaAbsY addr) := ofMode _
theorem nopAbsX3C (addr : Addr) : Statement (.nopAbsX3C addr) := ofMode _
theorem andAbsX (addr : Addr) : Statement (.andAbsX addr) := ofMode _
theorem rolAbsX (addr : Addr) : Statement (.rolAbsX addr) := ofMode _
theorem rlaAbsX (addr : Addr) : Statement (.rlaAbsX addr) := ofMode _
theorem rti : Statement .rti := ofMode _
theorem eorIndX (zp : Byte) : Statement (.eorIndX zp) := ofMode _
theorem sreIndX (zp : Byte) : Statement (.sreIndX zp) := ofMode _
theorem nopZp44 (zp : Byte) : Statement (.nopZp44 zp) := ofMode _
theorem eorZp (zp : Byte) : Statement (.eorZp zp) := ofMode _
theorem lsrZp (zp : Byte) : Statement (.lsrZp zp) := ofMode _
theorem sreZp (zp : Byte) : Statement (.sreZp zp) := ofMode _
theorem pha : Statement .pha := ofMode _
theorem eorImm (v : Byte) : Statement (.eorImm v) := ofMode _
theorem lsrAcc : Statement .lsrAcc := ofMode _
theorem alrImm (v : Byte) : Statement (.alrImm v) := ofMode _
theorem jmpAbs (addr : Addr) : Statement (.jmpAbs addr) := ofMode _
theorem eorAbs (addr : Addr) : Statement (.eorAbs addr) := ofMode _
theorem lsrAbs (addr : Addr) : Statement (.lsrAbs addr) := ofMode _
theorem sreAbs (addr : Addr) : Statement (.sreAbs addr) := ofMode _
theorem bvc (off : Byte) : Statement (.bvc off) := ofMode _
theorem eorIndY (zp : Byte) : Statement (.eorIndY zp) := ofMode _
theorem sreIndY (zp : Byte) : Statement (.sreIndY zp) := ofMode _
theorem nopZpX54 (zp : Byte) : Statement (.nopZpX54 zp) := ofMode _
theorem eorZpX (zp : Byte) : Statement (.eorZpX zp) := ofMode _
theorem lsrZpX (zp : Byte) : Statement (.lsrZpX zp) := ofMode _
theorem sreZpX (zp : Byte) : Statement (.sreZpX zp) := ofMode _
theorem cli : Statement .cli := ofMode _
theorem eorAbsY (addr : Addr) : Statement (.eorAbsY addr) := ofMode _
theorem nopImp5A : Statement .nopImp5A := ofMode _
theorem sreAbsY (addr : Addr) : Statement (.sreAbsY addr) := ofMode _
theorem nopAbsX5C (addr : Addr) : Statement (.nopAbsX5C addr) := ofMode _
theorem eorAbsX (addr : Addr) : Statement (.eorAbsX addr) := ofMode _
theorem lsrAbsX (addr : Addr) : Statement (.lsrAbsX addr) := ofMode _
theorem sreAbsX (addr : Addr) : Statement (.sreAbsX addr) := ofMode _
theorem rts : Statement .rts := ofMode _
theorem adcIndX (zp : Byte) : Statement (.adcIndX zp) := ofMode _
theorem rraIndX (zp : Byte) : Statement (.rraIndX zp) := ofMode _
theorem nopZp64 (zp : Byte) : Statement (.nopZp64 zp) := ofMode _
theorem adcZp (zp : Byte) : Statement (.adcZp zp) := ofMode _
theorem rorZp (zp : Byte) : Statement (.rorZp zp) := ofMode _
theorem rraZp (zp : Byte) : Statement (.rraZp zp) := ofMode _
theorem pla : Statement .pla := ofMode _
theorem adcImm (v : Byte) : Statement (.adcImm v) := ofMode _
theorem rorAcc : Statement .rorAcc := ofMode _
theorem arrImm (v : Byte) : Statement (.arrImm v) := ofMode _
theorem jmpInd (ptr : Addr) : Statement (.jmpInd ptr) := ofMode _
theorem adcAbs (addr : Addr) : Statement (.adcAbs addr) := ofMode _
theorem rorAbs (addr : Addr) : Statement (.rorAbs addr) := ofMode _
theorem rraAbs (addr : Addr) : Statement (.rraAbs addr) := ofMode _
theorem bvs (off : Byte) : Statement (.bvs off) := ofMode _
theorem adcIndY (zp : Byte) : Statement (.adcIndY zp) := ofMode _
theorem rraIndY (zp : Byte) : Statement (.rraIndY zp) := ofMode _
theorem nopZpX74 (zp : Byte) : Statement (.nopZpX74 zp) := ofMode _
theorem adcZpX (zp : Byte) : Statement (.adcZpX zp) := ofMode _
theorem rorZpX (zp : Byte) : Statement (.rorZpX zp) := ofMode _
theorem rraZpX (zp : Byte) : Statement (.rraZpX zp) := ofMode _
theorem sei : Statement .sei := ofMode _
theorem adcAbsY (addr : Addr) : Statement (.adcAbsY addr) := ofMode _
theorem nopImp7A : Statement .nopImp7A := ofMode _
theorem rraAbsY (addr : Addr) : Statement (.rraAbsY addr) := ofMode _
theorem nopAbsX7C (addr : Addr) : Statement (.nopAbsX7C addr) := ofMode _
theorem adcAbsX (addr : Addr) : Statement (.adcAbsX addr) := ofMode _
theorem rorAbsX (addr : Addr) : Statement (.rorAbsX addr) := ofMode _
theorem rraAbsX (addr : Addr) : Statement (.rraAbsX addr) := ofMode _
theorem nopImm80 (v : Byte) : Statement (.nopImm80 v) := ofMode _
theorem staIndX (zp : Byte) : Statement (.staIndX zp) := ofMode _
theorem nopImm82 (v : Byte) : Statement (.nopImm82 v) := ofMode _
theorem saxIndX (zp : Byte) : Statement (.saxIndX zp) := ofMode _
theorem styZp (zp : Byte) : Statement (.styZp zp) := ofMode _
theorem staZp (zp : Byte) : Statement (.staZp zp) := ofMode _
theorem stxZp (zp : Byte) : Statement (.stxZp zp) := ofMode _
theorem saxZp (zp : Byte) : Statement (.saxZp zp) := ofMode _
theorem dey : Statement .dey := ofMode _
theorem nopImm89 (v : Byte) : Statement (.nopImm89 v) := ofMode _
theorem txa : Statement .txa := ofMode _
theorem ane8B : Statement .ane8B := ofMode _
theorem styAbs (addr : Addr) : Statement (.styAbs addr) := ofMode _
theorem staAbs (addr : Addr) : Statement (.staAbs addr) := ofMode _
theorem stxAbs (addr : Addr) : Statement (.stxAbs addr) := ofMode _
theorem saxAbs (addr : Addr) : Statement (.saxAbs addr) := ofMode _
theorem bcc (off : Byte) : Statement (.bcc off) := ofMode _
theorem staIndY (zp : Byte) : Statement (.staIndY zp) := ofMode _
theorem sha (op : ShaOpcode) : Statement (.sha op) := ofMode _
theorem styZpX (zp : Byte) : Statement (.styZpX zp) := ofMode _
theorem staZpX (zp : Byte) : Statement (.staZpX zp) := ofMode _
theorem stxZpY (zp : Byte) : Statement (.stxZpY zp) := ofMode _
theorem saxZpY (zp : Byte) : Statement (.saxZpY zp) := ofMode _
theorem tya : Statement .tya := ofMode _
theorem staAbsY (addr : Addr) : Statement (.staAbsY addr) := ofMode _
theorem txs : Statement .txs := ofMode _
theorem tas9B : Statement .tas9B := ofMode _
theorem shy9C : Statement .shy9C := ofMode _
theorem staAbsX (addr : Addr) : Statement (.staAbsX addr) := ofMode _
theorem shx9E : Statement .shx9E := ofMode _
theorem ldyImm (v : Byte) : Statement (.ldyImm v) := ofMode _
theorem ldaIndX (zp : Byte) : Statement (.ldaIndX zp) := ofMode _
theorem ldxImm (v : Byte) : Statement (.ldxImm v) := ofMode _
theorem laxIndX (zp : Byte) : Statement (.laxIndX zp) := ofMode _
theorem ldyZp (zp : Byte) : Statement (.ldyZp zp) := ofMode _
theorem ldaZp (zp : Byte) : Statement (.ldaZp zp) := ofMode _
theorem ldxZp (zp : Byte) : Statement (.ldxZp zp) := ofMode _
theorem laxZp (zp : Byte) : Statement (.laxZp zp) := ofMode _
theorem tay : Statement .tay := ofMode _
theorem ldaImm (v : Byte) : Statement (.ldaImm v) := ofMode _
theorem tax : Statement .tax := ofMode _
theorem lxaAB : Statement .lxaAB := ofMode _
theorem ldyAbs (addr : Addr) : Statement (.ldyAbs addr) := ofMode _
theorem ldaAbs (addr : Addr) : Statement (.ldaAbs addr) := ofMode _
theorem ldxAbs (addr : Addr) : Statement (.ldxAbs addr) := ofMode _
theorem laxAbs (addr : Addr) : Statement (.laxAbs addr) := ofMode _
theorem bcs (off : Byte) : Statement (.bcs off) := ofMode _
theorem ldaIndY (zp : Byte) : Statement (.ldaIndY zp) := ofMode _
theorem laxIndY (zp : Byte) : Statement (.laxIndY zp) := ofMode _
theorem ldyZpX (zp : Byte) : Statement (.ldyZpX zp) := ofMode _
theorem ldaZpX (zp : Byte) : Statement (.ldaZpX zp) := ofMode _
theorem ldxZpY (zp : Byte) : Statement (.ldxZpY zp) := ofMode _
theorem laxZpY (zp : Byte) : Statement (.laxZpY zp) := ofMode _
theorem clv : Statement .clv := ofMode _
theorem ldaAbsY (addr : Addr) : Statement (.ldaAbsY addr) := ofMode _
theorem tsx : Statement .tsx := ofMode _
theorem lasBB : Statement .lasBB := ofMode _
theorem ldyAbsX (addr : Addr) : Statement (.ldyAbsX addr) := ofMode _
theorem ldaAbsX (addr : Addr) : Statement (.ldaAbsX addr) := ofMode _
theorem ldxAbsY (addr : Addr) : Statement (.ldxAbsY addr) := ofMode _
theorem laxAbsY (addr : Addr) : Statement (.laxAbsY addr) := ofMode _
theorem cpyImm (v : Byte) : Statement (.cpyImm v) := ofMode _
theorem cmpIndX (zp : Byte) : Statement (.cmpIndX zp) := ofMode _
theorem nopImmC2 (v : Byte) : Statement (.nopImmC2 v) := ofMode _
theorem dcpIndX (zp : Byte) : Statement (.dcpIndX zp) := ofMode _
theorem cpyZp (zp : Byte) : Statement (.cpyZp zp) := ofMode _
theorem cmpZp (zp : Byte) : Statement (.cmpZp zp) := ofMode _
theorem decZp (zp : Byte) : Statement (.decZp zp) := ofMode _
theorem dcpZp (zp : Byte) : Statement (.dcpZp zp) := ofMode _
theorem iny : Statement .iny := ofMode _
theorem cmpImm (v : Byte) : Statement (.cmpImm v) := ofMode _
theorem dex : Statement .dex := ofMode _
theorem sbxImm (v : Byte) : Statement (.sbxImm v) := ofMode _
theorem cpyAbs (addr : Addr) : Statement (.cpyAbs addr) := ofMode _
theorem cmpAbs (addr : Addr) : Statement (.cmpAbs addr) := ofMode _
theorem decAbs (addr : Addr) : Statement (.decAbs addr) := ofMode _
theorem dcpAbs (addr : Addr) : Statement (.dcpAbs addr) := ofMode _
theorem bne (off : Byte) : Statement (.bne off) := ofMode _
theorem cmpIndY (zp : Byte) : Statement (.cmpIndY zp) := ofMode _
theorem dcpIndY (zp : Byte) : Statement (.dcpIndY zp) := ofMode _
theorem nopZpXD4 (zp : Byte) : Statement (.nopZpXD4 zp) := ofMode _
theorem cmpZpX (zp : Byte) : Statement (.cmpZpX zp) := ofMode _
theorem decZpX (zp : Byte) : Statement (.decZpX zp) := ofMode _
theorem dcpZpX (zp : Byte) : Statement (.dcpZpX zp) := ofMode _
theorem cld : Statement .cld := ofMode _
theorem cmpAbsY (addr : Addr) : Statement (.cmpAbsY addr) := ofMode _
theorem nopImpDA : Statement .nopImpDA := ofMode _
theorem dcpAbsY (addr : Addr) : Statement (.dcpAbsY addr) := ofMode _
theorem nopAbsXDC (addr : Addr) : Statement (.nopAbsXDC addr) := ofMode _
theorem cmpAbsX (addr : Addr) : Statement (.cmpAbsX addr) := ofMode _
theorem decAbsX (addr : Addr) : Statement (.decAbsX addr) := ofMode _
theorem dcpAbsX (addr : Addr) : Statement (.dcpAbsX addr) := ofMode _
theorem cpxImm (v : Byte) : Statement (.cpxImm v) := ofMode _
theorem sbcIndX (zp : Byte) : Statement (.sbcIndX zp) := ofMode _
theorem nopImmE2 (v : Byte) : Statement (.nopImmE2 v) := ofMode _
theorem iscIndX (zp : Byte) : Statement (.iscIndX zp) := ofMode _
theorem cpxZp (zp : Byte) : Statement (.cpxZp zp) := ofMode _
theorem sbcZp (zp : Byte) : Statement (.sbcZp zp) := ofMode _
theorem incZp (zp : Byte) : Statement (.incZp zp) := ofMode _
theorem iscZp (zp : Byte) : Statement (.iscZp zp) := ofMode _
theorem inx : Statement .inx := ofMode _
theorem sbcImm (v : Byte) : Statement (.sbcImm v) := ofMode _
theorem nop : Statement .nop := ofMode _
theorem usbcImm (v : Byte) : Statement (.usbcImm v) := ofMode _
theorem cpxAbs (addr : Addr) : Statement (.cpxAbs addr) := ofMode _
theorem sbcAbs (addr : Addr) : Statement (.sbcAbs addr) := ofMode _
theorem incAbs (addr : Addr) : Statement (.incAbs addr) := ofMode _
theorem iscAbs (addr : Addr) : Statement (.iscAbs addr) := ofMode _
theorem beq (off : Byte) : Statement (.beq off) := ofMode _
theorem sbcIndY (zp : Byte) : Statement (.sbcIndY zp) := ofMode _
theorem iscIndY (zp : Byte) : Statement (.iscIndY zp) := ofMode _
theorem nopZpXF4 (zp : Byte) : Statement (.nopZpXF4 zp) := ofMode _
theorem sbcZpX (zp : Byte) : Statement (.sbcZpX zp) := ofMode _
theorem incZpX (zp : Byte) : Statement (.incZpX zp) := ofMode _
theorem iscZpX (zp : Byte) : Statement (.iscZpX zp) := ofMode _
theorem sed : Statement .sed := ofMode _
theorem sbcAbsY (addr : Addr) : Statement (.sbcAbsY addr) := ofMode _
theorem nopImpFA : Statement .nopImpFA := ofMode _
theorem iscAbsY (addr : Addr) : Statement (.iscAbsY addr) := ofMode _
theorem nopAbsXFC (addr : Addr) : Statement (.nopAbsXFC addr) := ofMode _
theorem sbcAbsX (addr : Addr) : Statement (.sbcAbsX addr) := ofMode _
theorem incAbsX (addr : Addr) : Statement (.incAbsX addr) := ofMode _
theorem iscAbsX (addr : Addr) : Statement (.iscAbsX addr) := ofMode _

end EncodedLength

end Sys2Proof.Laws
end

