-- ==== Sys2Proof/Tests/Slice0.lean ====
section
/-! SUPPORT. The model's own tests. The words are written out from the per-opcode table of 30_encoding.md (R102, R82); the
expected results are the vectors of 95_test_vectors.md, whose number each test's name carries (Part 2; O, T and so on are
its sections). A vector's start and end are fields of one step; what a step leaves alone is the business of the
statements. Last come the witnesses: for each statement with hypotheses, concrete values that meet all of them. -/

namespace Sys2Proof.Tests

open Sys2Proof.Machine

/-- The bytes are exactly one instruction, that one, and its encoding gives them back. -/
def reads (w : List Byte × Instr) : Bool :=
  match decode w.1 with
  | .ok (i, rest) => i == w.2 && rest == [] && encode w.2 == w.1
  | .error _ => false

/-- Bootstrap with a program at an address and some cells, started by the host (95_test_vectors.md, Conventions). -/
def load (origin : Addr) (bytes : List Byte) (cells : List (Addr × Byte)) : State :=
  { bootstrap { start := origin, image := cells ++ imageAt origin bytes } with status := .running }

/-- What one step leaves, seen through `f`. -/
def after {α : Type} (s : State) (f : State → α) : Option α :=
  match Machine.step s with
  | .next t => some (f t)
  | .fault _ | .refused _ => none

/-! ### Decoding: every row of the opcode table -/

theorem test_decode_row_0 :
    ([([0x00], .brk), ([0x01, 0x34], .oraIndX 0x34), ([0x02], .jam .x02), ([0x03, 0x34], .sloIndX 0x34),
      ([0x04, 0x34], .nopZp04 0x34), ([0x05, 0x34], .oraZp 0x34), ([0x06, 0x34], .aslZp 0x34),
      ([0x07, 0x34], .sloZp 0x34), ([0x08], .php), ([0x09, 0x34], .oraImm 0x34), ([0x0A], .aslAcc),
      ([0x0B, 0x34], .ancImm0B 0x34), ([0x0C, 0x34, 0x12], .nopAbs0C 0x1234), ([0x0D, 0x34, 0x12], .oraAbs 0x1234),
      ([0x0E, 0x34, 0x12], .aslAbs 0x1234), ([0x0F, 0x34, 0x12], .sloAbs 0x1234)].all reads) = true := by
  decide

theorem test_decode_row_1 :
    ([([0x10, 0x34], .bpl 0x34), ([0x11, 0x34], .oraIndY 0x34), ([0x12], .jam .x12), ([0x13, 0x34], .sloIndY 0x34),
      ([0x14, 0x34], .nopZpX14 0x34), ([0x15, 0x34], .oraZpX 0x34), ([0x16, 0x34], .aslZpX 0x34),
      ([0x17, 0x34], .sloZpX 0x34), ([0x18], .clc), ([0x19, 0x34, 0x12], .oraAbsY 0x1234), ([0x1A], .nopImp1A),
      ([0x1B, 0x34, 0x12], .sloAbsY 0x1234), ([0x1C, 0x34, 0x12], .nopAbsX1C 0x1234),
      ([0x1D, 0x34, 0x12], .oraAbsX 0x1234), ([0x1E, 0x34, 0x12], .aslAbsX 0x1234),
      ([0x1F, 0x34, 0x12], .sloAbsX 0x1234)].all reads) = true := by
  decide

theorem test_decode_row_2 :
    ([([0x20, 0x34, 0x12], .jsrAbs 0x1234), ([0x21, 0x34], .andIndX 0x34), ([0x22], .jam .x22),
      ([0x23, 0x34], .rlaIndX 0x34), ([0x24, 0x34], .bitZp 0x34), ([0x25, 0x34], .andZp 0x34),
      ([0x26, 0x34], .rolZp 0x34), ([0x27, 0x34], .rlaZp 0x34), ([0x28], .plp), ([0x29, 0x34], .andImm 0x34),
      ([0x2A], .rolAcc), ([0x2B, 0x34], .ancImm2B 0x34), ([0x2C, 0x34, 0x12], .bitAbs 0x1234),
      ([0x2D, 0x34, 0x12], .andAbs 0x1234), ([0x2E, 0x34, 0x12], .rolAbs 0x1234),
      ([0x2F, 0x34, 0x12], .rlaAbs 0x1234)].all reads) = true := by
  decide

theorem test_decode_row_3 :
    ([([0x30, 0x34], .bmi 0x34), ([0x31, 0x34], .andIndY 0x34), ([0x32], .jam .x32), ([0x33, 0x34], .rlaIndY 0x34),
      ([0x34, 0x34], .nopZpX34 0x34), ([0x35, 0x34], .andZpX 0x34), ([0x36, 0x34], .rolZpX 0x34),
      ([0x37, 0x34], .rlaZpX 0x34), ([0x38], .sec), ([0x39, 0x34, 0x12], .andAbsY 0x1234), ([0x3A], .nopImp3A),
      ([0x3B, 0x34, 0x12], .rlaAbsY 0x1234), ([0x3C, 0x34, 0x12], .nopAbsX3C 0x1234),
      ([0x3D, 0x34, 0x12], .andAbsX 0x1234), ([0x3E, 0x34, 0x12], .rolAbsX 0x1234),
      ([0x3F, 0x34, 0x12], .rlaAbsX 0x1234)].all reads) = true := by
  decide

theorem test_decode_row_4 :
    ([([0x40], .rti), ([0x41, 0x34], .eorIndX 0x34), ([0x42], .jam .x42), ([0x43, 0x34], .sreIndX 0x34),
      ([0x44, 0x34], .nopZp44 0x34), ([0x45, 0x34], .eorZp 0x34), ([0x46, 0x34], .lsrZp 0x34),
      ([0x47, 0x34], .sreZp 0x34), ([0x48], .pha), ([0x49, 0x34], .eorImm 0x34), ([0x4A], .lsrAcc),
      ([0x4B, 0x34], .alrImm 0x34), ([0x4C, 0x34, 0x12], .jmpAbs 0x1234), ([0x4D, 0x34, 0x12], .eorAbs 0x1234),
      ([0x4E, 0x34, 0x12], .lsrAbs 0x1234), ([0x4F, 0x34, 0x12], .sreAbs 0x1234)].all reads) = true := by
  decide

theorem test_decode_row_5 :
    ([([0x50, 0x34], .bvc 0x34), ([0x51, 0x34], .eorIndY 0x34), ([0x52], .jam .x52), ([0x53, 0x34], .sreIndY 0x34),
      ([0x54, 0x34], .nopZpX54 0x34), ([0x55, 0x34], .eorZpX 0x34), ([0x56, 0x34], .lsrZpX 0x34),
      ([0x57, 0x34], .sreZpX 0x34), ([0x58], .cli), ([0x59, 0x34, 0x12], .eorAbsY 0x1234), ([0x5A], .nopImp5A),
      ([0x5B, 0x34, 0x12], .sreAbsY 0x1234), ([0x5C, 0x34, 0x12], .nopAbsX5C 0x1234),
      ([0x5D, 0x34, 0x12], .eorAbsX 0x1234), ([0x5E, 0x34, 0x12], .lsrAbsX 0x1234),
      ([0x5F, 0x34, 0x12], .sreAbsX 0x1234)].all reads) = true := by
  decide

theorem test_decode_row_6 :
    ([([0x60], .rts), ([0x61, 0x34], .adcIndX 0x34), ([0x62], .jam .x62), ([0x63, 0x34], .rraIndX 0x34),
      ([0x64, 0x34], .nopZp64 0x34), ([0x65, 0x34], .adcZp 0x34), ([0x66, 0x34], .rorZp 0x34),
      ([0x67, 0x34], .rraZp 0x34), ([0x68], .pla), ([0x69, 0x34], .adcImm 0x34), ([0x6A], .rorAcc),
      ([0x6B, 0x34], .arrImm 0x34), ([0x6C, 0x34, 0x12], .jmpInd 0x1234), ([0x6D, 0x34, 0x12], .adcAbs 0x1234),
      ([0x6E, 0x34, 0x12], .rorAbs 0x1234), ([0x6F, 0x34, 0x12], .rraAbs 0x1234)].all reads) = true := by
  decide

theorem test_decode_row_7 :
    ([([0x70, 0x34], .bvs 0x34), ([0x71, 0x34], .adcIndY 0x34), ([0x72], .jam .x72), ([0x73, 0x34], .rraIndY 0x34),
      ([0x74, 0x34], .nopZpX74 0x34), ([0x75, 0x34], .adcZpX 0x34), ([0x76, 0x34], .rorZpX 0x34),
      ([0x77, 0x34], .rraZpX 0x34), ([0x78], .sei), ([0x79, 0x34, 0x12], .adcAbsY 0x1234), ([0x7A], .nopImp7A),
      ([0x7B, 0x34, 0x12], .rraAbsY 0x1234), ([0x7C, 0x34, 0x12], .nopAbsX7C 0x1234),
      ([0x7D, 0x34, 0x12], .adcAbsX 0x1234), ([0x7E, 0x34, 0x12], .rorAbsX 0x1234),
      ([0x7F, 0x34, 0x12], .rraAbsX 0x1234)].all reads) = true := by
  decide

theorem test_decode_row_8 :
    ([([0x80, 0x34], .nopImm80 0x34), ([0x81, 0x34], .staIndX 0x34), ([0x82, 0x34], .nopImm82 0x34),
      ([0x83, 0x34], .saxIndX 0x34), ([0x84, 0x34], .styZp 0x34), ([0x85, 0x34], .staZp 0x34),
      ([0x86, 0x34], .stxZp 0x34), ([0x87, 0x34], .saxZp 0x34), ([0x88], .dey), ([0x89, 0x34], .nopImm89 0x34),
      ([0x8A], .txa), ([0x8B], .ane8B), ([0x8C, 0x34, 0x12], .styAbs 0x1234), ([0x8D, 0x34, 0x12], .staAbs 0x1234),
      ([0x8E, 0x34, 0x12], .stxAbs 0x1234), ([0x8F, 0x34, 0x12], .saxAbs 0x1234)].all reads) = true := by
  decide

theorem test_decode_row_9 :
    ([([0x90, 0x34], .bcc 0x34), ([0x91, 0x34], .staIndY 0x34), ([0x92], .jam .x92), ([0x93], .sha .x93),
      ([0x94, 0x34], .styZpX 0x34), ([0x95, 0x34], .staZpX 0x34), ([0x96, 0x34], .stxZpY 0x34),
      ([0x97, 0x34], .saxZpY 0x34), ([0x98], .tya), ([0x99, 0x34, 0x12], .staAbsY 0x1234), ([0x9A], .txs),
      ([0x9B], .tas9B), ([0x9C], .shy9C), ([0x9D, 0x34, 0x12], .staAbsX 0x1234), ([0x9E], .shx9E),
      ([0x9F], .sha .x9F)].all reads) = true := by
  decide

theorem test_decode_row_A :
    ([([0xA0, 0x34], .ldyImm 0x34), ([0xA1, 0x34], .ldaIndX 0x34), ([0xA2, 0x34], .ldxImm 0x34),
      ([0xA3, 0x34], .laxIndX 0x34), ([0xA4, 0x34], .ldyZp 0x34), ([0xA5, 0x34], .ldaZp 0x34),
      ([0xA6, 0x34], .ldxZp 0x34), ([0xA7, 0x34], .laxZp 0x34), ([0xA8], .tay), ([0xA9, 0x34], .ldaImm 0x34),
      ([0xAA], .tax), ([0xAB], .lxaAB), ([0xAC, 0x34, 0x12], .ldyAbs 0x1234), ([0xAD, 0x34, 0x12], .ldaAbs 0x1234),
      ([0xAE, 0x34, 0x12], .ldxAbs 0x1234), ([0xAF, 0x34, 0x12], .laxAbs 0x1234)].all reads) = true := by
  decide

theorem test_decode_row_B :
    ([([0xB0, 0x34], .bcs 0x34), ([0xB1, 0x34], .ldaIndY 0x34), ([0xB2], .jam .xB2), ([0xB3, 0x34], .laxIndY 0x34),
      ([0xB4, 0x34], .ldyZpX 0x34), ([0xB5, 0x34], .ldaZpX 0x34), ([0xB6, 0x34], .ldxZpY 0x34),
      ([0xB7, 0x34], .laxZpY 0x34), ([0xB8], .clv), ([0xB9, 0x34, 0x12], .ldaAbsY 0x1234), ([0xBA], .tsx),
      ([0xBB], .lasBB), ([0xBC, 0x34, 0x12], .ldyAbsX 0x1234), ([0xBD, 0x34, 0x12], .ldaAbsX 0x1234),
      ([0xBE, 0x34, 0x12], .ldxAbsY 0x1234), ([0xBF, 0x34, 0x12], .laxAbsY 0x1234)].all reads) = true := by
  decide

theorem test_decode_row_C :
    ([([0xC0, 0x34], .cpyImm 0x34), ([0xC1, 0x34], .cmpIndX 0x34), ([0xC2, 0x34], .nopImmC2 0x34),
      ([0xC3, 0x34], .dcpIndX 0x34), ([0xC4, 0x34], .cpyZp 0x34), ([0xC5, 0x34], .cmpZp 0x34),
      ([0xC6, 0x34], .decZp 0x34), ([0xC7, 0x34], .dcpZp 0x34), ([0xC8], .iny), ([0xC9, 0x34], .cmpImm 0x34),
      ([0xCA], .dex), ([0xCB, 0x34], .sbxImm 0x34), ([0xCC, 0x34, 0x12], .cpyAbs 0x1234),
      ([0xCD, 0x34, 0x12], .cmpAbs 0x1234), ([0xCE, 0x34, 0x12], .decAbs 0x1234),
      ([0xCF, 0x34, 0x12], .dcpAbs 0x1234)].all reads) = true := by
  decide

theorem test_decode_row_D :
    ([([0xD0, 0x34], .bne 0x34), ([0xD1, 0x34], .cmpIndY 0x34), ([0xD2], .jam .xD2), ([0xD3, 0x34], .dcpIndY 0x34),
      ([0xD4, 0x34], .nopZpXD4 0x34), ([0xD5, 0x34], .cmpZpX 0x34), ([0xD6, 0x34], .decZpX 0x34),
      ([0xD7, 0x34], .dcpZpX 0x34), ([0xD8], .cld), ([0xD9, 0x34, 0x12], .cmpAbsY 0x1234), ([0xDA], .nopImpDA),
      ([0xDB, 0x34, 0x12], .dcpAbsY 0x1234), ([0xDC, 0x34, 0x12], .nopAbsXDC 0x1234),
      ([0xDD, 0x34, 0x12], .cmpAbsX 0x1234), ([0xDE, 0x34, 0x12], .decAbsX 0x1234),
      ([0xDF, 0x34, 0x12], .dcpAbsX 0x1234)].all reads) = true := by
  decide

theorem test_decode_row_E :
    ([([0xE0, 0x34], .cpxImm 0x34), ([0xE1, 0x34], .sbcIndX 0x34), ([0xE2, 0x34], .nopImmE2 0x34),
      ([0xE3, 0x34], .iscIndX 0x34), ([0xE4, 0x34], .cpxZp 0x34), ([0xE5, 0x34], .sbcZp 0x34),
      ([0xE6, 0x34], .incZp 0x34), ([0xE7, 0x34], .iscZp 0x34), ([0xE8], .inx), ([0xE9, 0x34], .sbcImm 0x34),
      ([0xEA], .nop), ([0xEB, 0x34], .usbcImm 0x34), ([0xEC, 0x34, 0x12], .cpxAbs 0x1234),
      ([0xED, 0x34, 0x12], .sbcAbs 0x1234), ([0xEE, 0x34, 0x12], .incAbs 0x1234),
      ([0xEF, 0x34, 0x12], .iscAbs 0x1234)].all reads) = true := by
  decide

theorem test_decode_row_F :
    ([([0xF0, 0x34], .beq 0x34), ([0xF1, 0x34], .sbcIndY 0x34), ([0xF2], .jam .xF2), ([0xF3, 0x34], .iscIndY 0x34),
      ([0xF4, 0x34], .nopZpXF4 0x34), ([0xF5, 0x34], .sbcZpX 0x34), ([0xF6, 0x34], .incZpX 0x34),
      ([0xF7, 0x34], .iscZpX 0x34), ([0xF8], .sed), ([0xF9, 0x34, 0x12], .sbcAbsY 0x1234), ([0xFA], .nopImpFA),
      ([0xFB, 0x34, 0x12], .iscAbsY 0x1234), ([0xFC, 0x34, 0x12], .nopAbsXFC 0x1234),
      ([0xFD, 0x34, 0x12], .sbcAbsX 0x1234), ([0xFE, 0x34, 0x12], .incAbsX 0x1234),
      ([0xFF, 0x34, 0x12], .iscAbsX 0x1234)].all reads) = true := by
  decide

/-- Truncated bytes and no bytes are no instruction. -/
theorem test_decode_truncated :
    (match decode [0xAD, 0x34], decode [] with
      | .error (.truncated op), .error .noBytes => op == 0xAD
      | _, _ => false) = true := by
  decide

/-! ### One step: the vectors of 95_test_vectors.md -/

/-- LDA zp,X wraps in page 0. -/
theorem test_M1 :
    after { load 0x0600 [0xB5, 0xF0] [(0x0010, 0x42)] with x := 0x20 }
      (fun t => (t.pc, t.a, t.cycles)) =
    some (0x0602, 0x42, 4) := by
  decide

/-- LDA abs,X crossing a page. -/
theorem test_M2 :
    after { load 0x0600 [0xBD, 0xF0, 0x12] [(0x1310, 0x99)] with x := 0x20 }
      (fun t => (t.pc, t.a, t.p, t.cycles)) =
    some (0x0603, 0x99, 0x80, 5) := by
  decide

/-- LDA abs,X wraps past 0xFFFF. -/
theorem test_M4 :
    after { load 0x0600 [0xBD, 0xF0, 0xFF] [(0x0010, 0x01)] with x := 0x20 }
      (fun t => (t.pc, t.a, t.cycles)) =
    some (0x0603, 0x01, 5) := by
  decide

/-- LDA (zp,X) pointer at 0xFF wraps to 0x00. -/
theorem test_M5 :
    after { load 0x0600 [0xA1, 0xFE] [(0x00FF, 0x34), (0x0000, 0x12), (0x1234, 0x77)] with x := 0x01 }
      (fun t => (t.pc, t.a, t.cycles)) =
    some (0x0602, 0x77, 6) := by
  decide

/-- LDA (zp),Y pointer at 0xFF, Y crosses a page. -/
theorem test_M6 :
    after { load 0x0600 [0xB1, 0xFF] [(0x00FF, 0xF8), (0x0000, 0x12), (0x1308, 0x05)] with y := 0x10 }
      (fun t => (t.pc, t.a, t.cycles)) =
    some (0x0602, 0x05, 6) := by
  decide

/-- STA abs,X crossing: no penalty. -/
theorem test_M7 :
    after { load 0x0600 [0x9D, 0xF0, 0x12] [] with a := 0x11, x := 0x20 }
      (fun t => (t.pc, t.cycles, t.read 0x1310)) =
    some (0x0603, 5, 0x11) := by
  decide

/-- ASL abs,X crossing: no penalty. -/
theorem test_M8 :
    after { load 0x0600 [0x1E, 0xF0, 0x12] [(0x1310, 0x81)] with x := 0x20 }
      (fun t => (t.pc, t.p, t.cycles, t.read 0x1310)) =
    some (0x0603, 0x01, 7, 0x02) := by
  decide

/-- JMP (ind) page-wrap quirk. -/
theorem test_M9 :
    after (load 0x0600 [0x6C, 0xFF, 0x02] [(0x02FF, 0x00), (0x0200, 0x07), (0x0300, 0x08)])
      (fun t => (t.pc, t.cycles)) =
    some (0x0700, 5) := by
  decide

/-- JMP (ind) pointer 0xFFFF. -/
theorem test_M10 :
    after (load 0x0600 [0x6C, 0xFF, 0xFF] [(0xFFFF, 0x34), (0xFF00, 0x12)])
      (fun t => (t.pc, t.cycles)) =
    some (0x1234, 5) := by
  decide

/-- LDX zp,Y wraps in page 0. -/
theorem test_M11 :
    after { load 0x0600 [0xB6, 0xFF] [(0x0001, 0x80)] with y := 0x02 }
      (fun t => (t.pc, t.x, t.p, t.cycles)) =
    some (0x0602, 0x80, 0x80, 4) := by
  decide

/-- operand fetch wraps PC past 0xFFFF. -/
theorem test_M12 :
    after (load 0xFFFF [0xA9] [(0x0000, 0x55)])
      (fun t => (t.pc, t.a, t.cycles)) =
    some (0x0001, 0x55, 2) := by
  decide

/-- STA (zp),Y crossing: no penalty. -/
theorem test_M13 :
    after { load 0x0600 [0x91, 0x10] [(0x0010, 0x01), (0x0011, 0x20)] with a := 0x5A, y := 0xFF }
      (fun t => (t.pc, t.cycles, t.read 0x2100)) =
    some (0x0602, 6, 0x5A) := by
  decide

/-- LDA # zero. -/
theorem test_L1 :
    after { load 0x0600 [0xA9, 0x00] [] with a := 0x05 }
      (fun t => (t.pc, t.a, t.p, t.cycles)) =
    some (0x0602, 0x00, 0x02, 2) := by
  decide

/-- LDX abs. -/
theorem test_L3 :
    after (load 0x0600 [0xAE, 0x34, 0x12] [(0x1234, 0x7F)])
      (fun t => (t.pc, t.x, t.cycles)) =
    some (0x0603, 0x7F, 4) := by
  decide

/-- LDY zp,X. -/
theorem test_L4 :
    after { load 0x0600 [0xB4, 0x10] [(0x0015, 0xFF)] with x := 0x05 }
      (fun t => (t.pc, t.y, t.p, t.cycles)) =
    some (0x0602, 0xFF, 0x80, 4) := by
  decide

/-- STA zp keeps flags. -/
theorem test_L5 :
    after { load 0x0600 [0x85, 0x10] [] with a := 0x00, p := 0xC3 }
      (fun t => (t.pc, t.cycles)) =
    some (0x0602, 3) := by
  decide

/-- STY zp,X wraps in page 0. -/
theorem test_L6 :
    after { load 0x0600 [0x94, 0xFF] [] with x := 0x02, y := 0x66 }
      (fun t => (t.pc, t.cycles, t.read 0x0001)) =
    some (0x0602, 4, 0x66) := by
  decide

/-- STX zp,Y. -/
theorem test_L7 :
    after { load 0x0600 [0x96, 0x10] [] with x := 0x99, y := 0x01 }
      (fun t => (t.pc, t.cycles, t.read 0x0011)) =
    some (0x0602, 4, 0x99) := by
  decide

/-- LDY # keeps C and V. -/
theorem test_L8 :
    after { load 0x0600 [0xA0, 0x01] [] with p := 0x41 }
      (fun t => (t.pc, t.y, t.cycles)) =
    some (0x0602, 0x01, 2) := by
  decide

/-- TAX zero. -/
theorem test_T1 :
    after { load 0x0600 [0xAA] [] with x := 0x55 }
      (fun t => (t.pc, t.x, t.p, t.cycles)) =
    some (0x0601, 0x00, 0x02, 2) := by
  decide

/-- TXA negative. -/
theorem test_T2 :
    after { load 0x0600 [0x8A] [] with x := 0x80 }
      (fun t => (t.pc, t.a, t.p, t.cycles)) =
    some (0x0601, 0x80, 0x80, 2) := by
  decide

/-- TSX at SP=0x00. -/
theorem test_T3 :
    after { load 0x0600 [0xBA] [] with sp := 0x00, x := 0x12 }
      (fun t => (t.pc, t.x, t.p, t.cycles)) =
    some (0x0601, 0x00, 0x02, 2) := by
  decide

/-- TXS writes no flag. -/
theorem test_T4 :
    after { load 0x0600 [0x9A] [] with x := 0x80, p := 0x02 }
      (fun t => (t.pc, t.sp, t.cycles)) =
    some (0x0601, 0x80, 2) := by
  decide

/-- PHA at SP=0x00 wraps. -/
theorem test_T5 :
    after { load 0x0600 [0x48] [] with a := 0x3C, sp := 0x00 }
      (fun t => (t.pc, t.sp, t.cycles, t.read 0x0100)) =
    some (0x0601, 0xFF, 3, 0x3C) := by
  decide

/-- PHP with P=0x00. -/
theorem test_T6 :
    after (load 0x0600 [0x08] [])
      (fun t => (t.pc, t.sp, t.cycles, t.read 0x01FF)) =
    some (0x0601, 0xFE, 3, 0x30) := by
  decide

/-- PHP with P=0xCF. -/
theorem test_T7 :
    after { load 0x0600 [0x08] [] with p := 0xCF }
      (fun t => (t.pc, t.sp, t.cycles, t.read 0x01FF)) =
    some (0x0601, 0xFE, 3, 0xFF) := by
  decide

/-- PLA at SP=0xFF wraps. -/
theorem test_T8 :
    after (load 0x0600 [0x68] [(0x0100, 0x80)])
      (fun t => (t.pc, t.a, t.sp, t.p, t.cycles)) =
    some (0x0601, 0x80, 0x00, 0x80, 4) := by
  decide

/-- PLP pulls 0xFF. -/
theorem test_T9 :
    after { load 0x0600 [0x28] [(0x01FF, 0xFF)] with sp := 0xFE }
      (fun t => (t.pc, t.sp, t.p, t.cycles)) =
    some (0x0601, 0xFF, 0xCF, 4) := by
  decide

/-- PLP keeps B. -/
theorem test_T10 :
    after { load 0x0600 [0x28] [(0x01FF, 0x00)] with sp := 0xFE, p := 0x10 }
      (fun t => (t.pc, t.sp, t.cycles)) =
    some (0x0601, 0xFF, 4) := by
  decide

/-- ADC KDEV example. -/
theorem test_A1 :
    after { load 0x0600 [0x69, 0x50] [] with a := 0x50 }
      (fun t => (t.pc, t.a, t.p, t.cycles)) =
    some (0x0602, 0xA0, 0xC0, 2) := by
  decide

/-- SBC KDEV example. -/
theorem test_A5 :
    after { load 0x0600 [0xE9, 0x01] [] with a := 0x00, p := 0x01 }
      (fun t => (t.pc, t.a, t.p, t.cycles)) =
    some (0x0602, 0xFF, 0x80, 2) := by
  decide

/-- CMP equal. -/
theorem test_A9 :
    after { load 0x0600 [0xC9, 0x40] [] with a := 0x40 }
      (fun t => (t.pc, t.p, t.cycles)) =
    some (0x0602, 0x03, 2) := by
  decide

/-- CMP less. -/
theorem test_A10 :
    after { load 0x0600 [0xC9, 0x41] [] with a := 0x40 }
      (fun t => (t.pc, t.p, t.cycles)) =
    some (0x0602, 0x80, 2) := by
  decide

/-- CPX zp greater. -/
theorem test_A12 :
    after { load 0x0600 [0xE4, 0x10] [(0x0010, 0x10)] with x := 0x90 }
      (fun t => (t.pc, t.p, t.cycles)) =
    some (0x0602, 0x81, 3) := by
  decide

/-- CPY # keeps V. -/
theorem test_A13 :
    after { load 0x0600 [0xC0, 0x00] [] with y := 0x00, p := 0x40 }
      (fun t => (t.pc, t.p, t.cycles)) =
    some (0x0602, 0x43, 2) := by
  decide

/-- INC zp 0xFF. -/
theorem test_A14 :
    after (load 0x0600 [0xE6, 0x10] [(0x0010, 0xFF)])
      (fun t => (t.pc, t.p, t.cycles, t.read 0x0010)) =
    some (0x0602, 0x02, 5, 0x00) := by
  decide

/-- DEC abs 0x00. -/
theorem test_A15 :
    after (load 0x0600 [0xCE, 0x00, 0x02] [])
      (fun t => (t.pc, t.p, t.cycles, t.read 0x0200)) =
    some (0x0603, 0x80, 6, 0xFF) := by
  decide

/-- INX 0x7F. -/
theorem test_A16 :
    after { load 0x0600 [0xE8] [] with x := 0x7F }
      (fun t => (t.pc, t.x, t.p, t.cycles)) =
    some (0x0601, 0x80, 0x80, 2) := by
  decide

/-- DEY 0x01. -/
theorem test_A17 :
    after { load 0x0600 [0x88] [] with y := 0x01 }
      (fun t => (t.pc, t.y, t.p, t.cycles)) =
    some (0x0601, 0x00, 0x02, 2) := by
  decide

/-- INY 0xFF. -/
theorem test_A18 :
    after { load 0x0600 [0xC8] [] with y := 0xFF }
      (fun t => (t.pc, t.y, t.p, t.cycles)) =
    some (0x0601, 0x00, 0x02, 2) := by
  decide

/-- DEX 0x00. -/
theorem test_A19 :
    after (load 0x0600 [0xCA] [])
      (fun t => (t.pc, t.x, t.p, t.cycles)) =
    some (0x0601, 0xFF, 0x80, 2) := by
  decide

/-- ADC 0x58+0x46 decimal. -/
theorem test_A21 :
    after { load 0x0600 [0x69, 0x46] [] with a := 0x58, p := 0x08, policy := { decimal := .nmos } }
      (fun t => (t.pc, t.a, t.p, t.cycles)) =
    some (0x0602, 0x04, 0xC9, 2) := by
  decide

/-- SBC 0x46-0x12 decimal. -/
theorem test_A23 :
    after { load 0x0600 [0xE9, 0x12] [] with a := 0x46, p := 0x09, policy := { decimal := .nmos } }
      (fun t => (t.pc, t.a, t.cycles)) =
    some (0x0602, 0x34, 2) := by
  decide

/-- SBC (zp),Y D=1 refused before operand read. -/
theorem test_A27 :
    after { load 0x0600 [0xF1, 0x10] [] with a := 0x20, p := 0x08 }
      (fun t => (t.pc, t.cycles, t.status)) =
    some (0x0600, 0, .refused .decimalMode 0xF1 0x0600) := by
  decide

/-- AND #. -/
theorem test_S1 :
    after { load 0x0600 [0x29, 0x0F] [] with a := 0xF0 }
      (fun t => (t.pc, t.a, t.p, t.cycles)) =
    some (0x0602, 0x00, 0x02, 2) := by
  decide

/-- ORA #. -/
theorem test_S2 :
    after { load 0x0600 [0x09, 0x80] [] with a := 0x01 }
      (fun t => (t.pc, t.a, t.p, t.cycles)) =
    some (0x0602, 0x81, 0x80, 2) := by
  decide

/-- EOR # self-cancel. -/
theorem test_S3 :
    after { load 0x0600 [0x49, 0xFF] [] with a := 0xFF }
      (fun t => (t.pc, t.a, t.p, t.cycles)) =
    some (0x0602, 0x00, 0x02, 2) := by
  decide

/-- BIT zp N,V from operand. -/
theorem test_S4 :
    after { load 0x0600 [0x24, 0x10] [(0x0010, 0xC0)] with a := 0x01 }
      (fun t => (t.pc, t.p, t.cycles)) =
    some (0x0602, 0xC2, 3) := by
  decide

/-- BIT abs Z clear. -/
theorem test_S5 :
    after { load 0x0600 [0x2C, 0x00, 0x02] [(0x0200, 0x01)] with a := 0x01, p := 0xC0 }
      (fun t => (t.pc, t.p, t.cycles)) =
    some (0x0603, 0x00, 4) := by
  decide

/-- ASL A 0x80. -/
theorem test_S6 :
    after { load 0x0600 [0x0A] [] with a := 0x80 }
      (fun t => (t.pc, t.a, t.p, t.cycles)) =
    some (0x0601, 0x00, 0x03, 2) := by
  decide

/-- LSR zp 0x01. -/
theorem test_S7 :
    after (load 0x0600 [0x46, 0x10] [(0x0010, 0x01)])
      (fun t => (t.pc, t.p, t.cycles, t.read 0x0010)) =
    some (0x0602, 0x03, 5, 0x00) := by
  decide

/-- ROL A with C=1. -/
theorem test_S8 :
    after { load 0x0600 [0x2A] [] with a := 0x80, p := 0x01 }
      (fun t => (t.pc, t.a, t.cycles)) =
    some (0x0601, 0x01, 2) := by
  decide

/-- ROR A with C=1. -/
theorem test_S9 :
    after { load 0x0600 [0x6A] [] with a := 0x00, p := 0x01 }
      (fun t => (t.pc, t.a, t.p, t.cycles)) =
    some (0x0601, 0x80, 0x80, 2) := by
  decide

/-- ROR zp,X. -/
theorem test_S10 :
    after { load 0x0600 [0x76, 0x0F] [(0x0010, 0x03)] with x := 0x01 }
      (fun t => (t.pc, t.p, t.cycles, t.read 0x0010)) =
    some (0x0602, 0x01, 6, 0x01) := by
  decide

/-- LSR A clears N. -/
theorem test_S11 :
    after { load 0x0600 [0x4A] [] with a := 0xFF, p := 0x80 }
      (fun t => (t.pc, t.a, t.p, t.cycles)) =
    some (0x0601, 0x7F, 0x01, 2) := by
  decide

/-- BNE taken, same page. -/
theorem test_B1 : after (load 0x0600 [0xD0, 0x10] []) (fun t => (t.pc, t.cycles)) = some (0x0612, 3) := by
  decide

/-- BEQ not taken. -/
theorem test_B2 : after (load 0x0600 [0xF0, 0x10] []) (fun t => (t.pc, t.cycles)) = some (0x0602, 2) := by
  decide

/-- BCC taken, crossing forward. -/
theorem test_B3 : after (load 0x06FD [0x90, 0x05] []) (fun t => (t.pc, t.cycles)) = some (0x0704, 4) := by
  decide

/-- BMI to itself. -/
theorem test_B4 :
    after { load 0x0600 [0x30, 0xFE] [] with p := 0x80 }
      (fun t => (t.pc, t.cycles)) =
    some (0x0600, 3) := by
  decide

/-- BCS at 0x06FE to 0x0710 (no cross, D13). -/
theorem test_B5 :
    after { load 0x06FE [0xB0, 0x10] [] with p := 0x01 }
      (fun t => (t.pc, t.cycles)) =
    some (0x0710, 3) := by
  decide

/-- BPL backward crossing. -/
theorem test_B6 : after (load 0x0600 [0x10, 0x80] []) (fun t => (t.pc, t.cycles)) = some (0x0582, 4) := by
  decide

/-- BVS taken. -/
theorem test_B7 :
    after { load 0x0600 [0x70, 0x02] [] with p := 0x40 }
      (fun t => (t.pc, t.cycles)) =
    some (0x0604, 3) := by
  decide

/-- BVC not taken. -/
theorem test_B8 :
    after { load 0x0600 [0x50, 0x02] [] with p := 0x40 }
      (fun t => (t.pc, t.cycles)) =
    some (0x0602, 2) := by
  decide

/-- JMP abs. -/
theorem test_J1 : after (load 0x0600 [0x4C, 0x34, 0x12] []) (fun t => (t.pc, t.cycles)) = some (0x1234, 3) := by
  decide

/-- JSR. -/
theorem test_J2 :
    after (load 0x0600 [0x20, 0x00, 0x07] [])
      (fun t => (t.pc, t.sp, t.cycles, t.read 0x01FE, t.read 0x01FF)) =
    some (0x0700, 0xFD, 6, 0x02, 0x06) := by
  decide

/-- JSR at SP=0x00 wraps. -/
theorem test_J3 :
    after { load 0x0600 [0x20, 0x00, 0x07] [] with sp := 0x00 }
      (fun t => (t.pc, t.sp, t.cycles, t.read 0x0100, t.read 0x01FF)) =
    some (0x0700, 0xFE, 6, 0x06, 0x02) := by
  decide

/-- RTS. -/
theorem test_J4 :
    after { load 0x0600 [0x60] [(0x01FE, 0x02), (0x01FF, 0x06)] with sp := 0xFD }
      (fun t => (t.pc, t.sp, t.cycles)) =
    some (0x0603, 0xFF, 6) := by
  decide

/-- RTS of 0xFFFF. -/
theorem test_J5 :
    after { load 0x0600 [0x60] [(0x01FE, 0xFF), (0x01FF, 0xFF)] with sp := 0xFD }
      (fun t => (t.pc, t.sp, t.cycles)) =
    some (0x0000, 0xFF, 6) := by
  decide

/-- RTI. -/
theorem test_J6 :
    after { load 0x0600 [0x40] [(0x01FD, 0xC3), (0x01FE, 0x34), (0x01FF, 0x12)] with sp := 0xFC }
      (fun t => (t.pc, t.sp, t.p, t.cycles)) =
    some (0x1234, 0xFF, 0xC3, 6) := by
  decide

/-- BRK. -/
theorem test_J7 :
    after (load 0x0600 [0x00] [])
      (fun t => (t.pc, t.p, t.cycles, t.status)) =
    some (0x0601, 0x10, 7, .halted .brk) := by
  decide

/-- NOP. -/
theorem test_J8 : after { load 0x0600 [0xEA] [] with p := 0xC3 } (fun t => (t.pc, t.cycles)) = some (0x0601, 2) := by
  decide

/-- SEC. -/
theorem test_F1 : after (load 0x0600 [0x38] []) (fun t => (t.pc, t.p, t.cycles)) = some (0x0601, 0x01, 2) := by
  decide

/-- CLC. -/
theorem test_F2 :
    after { load 0x0600 [0x18] [] with p := 0xFF }
      (fun t => (t.pc, t.p, t.cycles)) =
    some (0x0601, 0xFE, 2) := by
  decide

/-- SEI. -/
theorem test_F3 : after (load 0x0600 [0x78] []) (fun t => (t.pc, t.p, t.cycles)) = some (0x0601, 0x04, 2) := by
  decide

/-- CLI. -/
theorem test_F4 :
    after { load 0x0600 [0x58] [] with p := 0x04 }
      (fun t => (t.pc, t.p, t.cycles)) =
    some (0x0601, 0x00, 2) := by
  decide

/-- CLV. -/
theorem test_F5 :
    after { load 0x0600 [0xB8] [] with p := 0x41 }
      (fun t => (t.pc, t.p, t.cycles)) =
    some (0x0601, 0x01, 2) := by
  decide

/-- SED. -/
theorem test_F6 : after (load 0x0600 [0xF8] []) (fun t => (t.pc, t.p, t.cycles)) = some (0x0601, 0x08, 2) := by
  decide

/-- CLD. -/
theorem test_F7 :
    after { load 0x0600 [0xD8] [] with p := 0x08 }
      (fun t => (t.pc, t.p, t.cycles)) =
    some (0x0601, 0x00, 2) := by
  decide

/-- SLO zp. -/
theorem test_I1 :
    after { load 0x0600 [0x07, 0x10] [(0x0010, 0x81)] with a := 0x01 }
      (fun t => (t.pc, t.a, t.p, t.cycles, t.read 0x0010)) =
    some (0x0602, 0x03, 0x01, 5, 0x02) := by
  decide

/-- RLA zp. -/
theorem test_I2 :
    after { load 0x0600 [0x27, 0x10] [(0x0010, 0x80)] with a := 0xFF, p := 0x01 }
      (fun t => (t.pc, t.a, t.cycles, t.read 0x0010)) =
    some (0x0602, 0x01, 5, 0x01) := by
  decide

/-- SRE zp. -/
theorem test_I3 :
    after { load 0x0600 [0x47, 0x10] [(0x0010, 0x03)] with a := 0x01 }
      (fun t => (t.pc, t.a, t.p, t.cycles, t.read 0x0010)) =
    some (0x0602, 0x00, 0x03, 5, 0x01) := by
  decide

/-- RRA zp. -/
theorem test_I4 :
    after { load 0x0600 [0x67, 0x10] [(0x0010, 0x02)] with a := 0x10, p := 0x01 }
      (fun t => (t.pc, t.a, t.p, t.cycles, t.read 0x0010)) =
    some (0x0602, 0x91, 0x80, 5, 0x81) := by
  decide

/-- SAX zp. -/
theorem test_I5 :
    after { load 0x0600 [0x87, 0x10] [] with a := 0xF0, x := 0x3C }
      (fun t => (t.pc, t.cycles, t.read 0x0010)) =
    some (0x0602, 3, 0x30) := by
  decide

/-- LAX zp. -/
theorem test_I6 :
    after (load 0x0600 [0xA7, 0x10] [(0x0010, 0x80)])
      (fun t => (t.pc, t.a, t.x, t.p, t.cycles)) =
    some (0x0602, 0x80, 0x80, 0x80, 3) := by
  decide

/-- DCP zp. -/
theorem test_I7 :
    after { load 0x0600 [0xC7, 0x10] [(0x0010, 0x41)] with a := 0x40 }
      (fun t => (t.pc, t.p, t.cycles, t.read 0x0010)) =
    some (0x0602, 0x03, 5, 0x40) := by
  decide

/-- ISC zp. -/
theorem test_I8 :
    after { load 0x0600 [0xE7, 0x10] [] with a := 0x05, p := 0x01 }
      (fun t => (t.pc, t.a, t.cycles, t.read 0x0010)) =
    some (0x0602, 0x04, 5, 0x01) := by
  decide

/-- ANC #. -/
theorem test_I9 :
    after { load 0x0600 [0x0B, 0x80] [] with a := 0xFF }
      (fun t => (t.pc, t.a, t.p, t.cycles)) =
    some (0x0602, 0x80, 0x81, 2) := by
  decide

/-- ALR #. -/
theorem test_I10 :
    after { load 0x0600 [0x4B, 0x03] [] with a := 0xFF }
      (fun t => (t.pc, t.a, t.p, t.cycles)) =
    some (0x0602, 0x01, 0x01, 2) := by
  decide

/-- ARR #. -/
theorem test_I11 :
    after { load 0x0600 [0x6B, 0xFF] [] with a := 0xFF, p := 0x01 }
      (fun t => (t.pc, t.p, t.cycles)) =
    some (0x0602, 0x81, 2) := by
  decide

/-- ARR # V set. -/
theorem test_I12 :
    after { load 0x0600 [0x6B, 0xFF] [] with a := 0x80 }
      (fun t => (t.pc, t.a, t.p, t.cycles)) =
    some (0x0602, 0x40, 0x41, 2) := by
  decide

/-- SBX #. -/
theorem test_I13 :
    after { load 0x0600 [0xCB, 0x10] [] with a := 0xFF, x := 0x0F }
      (fun t => (t.pc, t.x, t.p, t.cycles)) =
    some (0x0602, 0xFF, 0x80, 2) := by
  decide

/-- SBC 0xEB (USBC). -/
theorem test_I14 :
    after { load 0x0600 [0xEB, 0x01] [] with a := 0x00, p := 0x01 }
      (fun t => (t.pc, t.a, t.p, t.cycles)) =
    some (0x0602, 0xFF, 0x80, 2) := by
  decide

/-- NOP abs,X crossing. -/
theorem test_I15 :
    after { load 0x0600 [0x1C, 0xFF, 0x10] [] with x := 0x01 }
      (fun t => (t.pc, t.cycles)) =
    some (0x0603, 5) := by
  decide

/-- NOP # (0x80). -/
theorem test_I16 : after (load 0x0600 [0x80, 0x12] []) (fun t => (t.pc, t.cycles)) = some (0x0602, 2) := by
  decide

/-- LAX with P_ILLEGAL=None. -/
theorem test_I17 :
    after { load 0x0600 [0xA7, 0x10] [] with policy := { illegal := .none } }
      (fun t => (t.pc, t.cycles, t.status)) =
    some (0x0601, 0, .faulted 0xA7 0x0600) := by
  decide

/-- RRA with D=1, P_DECIMAL=Refuse. -/
theorem test_I18 :
    after { load 0x0600 [0x67, 0x10] [] with p := 0x08 }
      (fun t => (t.pc, t.cycles, t.status)) =
    some (0x0600, 0, .refused .decimalMode 0x67 0x0600) := by
  decide

/-- ISC abs,Y crossing: no penalty. -/
theorem test_I20 :
    after { load 0x0600 [0xFB, 0xF0, 0x12] [(0x1310, 0x0F)] with y := 0x20, p := 0x01 }
      (fun t => (t.pc, t.a, t.p, t.cycles, t.read 0x1310)) =
    some (0x0603, 0xF0, 0x80, 7, 0x10) := by
  decide

/-- unmapped 0x02 (KDEV §8). -/
theorem test_O1 :
    after { load 0x0600 [0x02] [] with a := 0x11, x := 0x22, y := 0x33, p := 0xC3 }
      (fun t => (t.pc, t.cycles, t.status)) =
    some (0x0601, 0, .faulted 0x02 0x0600) := by
  decide

/-- JAM 0xF2. -/
theorem test_O2 :
    after (load 0x0600 [0xF2] [])
      (fun t => (t.pc, t.cycles, t.status)) =
    some (0x0601, 0, .faulted 0xF2 0x0600) := by
  decide

/-- unstable 0x8B. -/
theorem test_O3 :
    after { load 0x0600 [0x8B, 0x00] [] with a := 0x01 }
      (fun t => (t.pc, t.cycles, t.status)) =
    some (0x0601, 0, .faulted 0x8B 0x0600) := by
  decide

/-! ### Well-formedness -/

/-- The check refuses an unmapped byte's term (R105, R106), under either setting. -/
theorem test_illformed_unmapped :
    Instr.wellFormed {} (.jam .x02) = false ∧ Instr.hasDescriptor (.jam .x02) = false ∧
    Instr.wellFormed { illegal := .none } .ane8B = false := by
  decide

/-- The check refuses a stable illegal term under `P_ILLEGAL = None` (R104), and takes it under `Stable`. -/
theorem test_illformed_illegal :
    Instr.wellFormed { illegal := .none } (.sloZp 0) = false ∧ Instr.allowedBy { illegal := .none } (.sloZp 0) = false ∧
    Instr.wellFormed {} (.sloZp 0) = true ∧ Instr.wellFormed { illegal := .none } (.ldaZp 0) = true := by
  decide

/-! ### The host's two questions, and what only a few rules say -/

/-- A table word decodes, and is the very next instruction that a step runs. -/
theorem test_fetch_word :
    decodeTableWord 8 0xA2 = some (.ldxImm 0x00) ∧ (State.reset.withFetchWord 8 0xA2).fetched = .ldxImm 0x00 ∧
    decodeTableWord 24 0x1234AD = some (.ldaAbs 0x1234) ∧
    (State.reset.withFetchWord 24 0x1234AD).fetched = .ldaAbs 0x1234 ∧
    after (State.reset.withFetchWord 8 0xE8) (fun t => (t.pc, t.x)) = some (0x0601, 0x01) := by
  decide

/-- In each status but `Running` the step stops there (R84; log 2). -/
theorem test_no_step_when_stopped :
    after State.reset (fun t => t.pc) = none ∧ after { State.reset with status := .halted .brk } (fun t => t.pc) = none ∧
    after { State.reset with status := .faulted 0x02 0x0600 } (fun t => t.pc) = none ∧
    after { State.reset with status := .refused .decimalMode 0x69 0x0600 } (fun t => t.pc) = none := by
  decide

/-- The host's moves (R333 to R335), and none out of `Faulted` (R337). -/
theorem test_host_moves :
    (hostMove .start State.reset).map (·.status) = some .running ∧
    (hostMove .stop (load 0x0600 [] [])).map (·.status) = some (.halted .hostStop) ∧
    (hostMove .restart { State.reset with status := .halted .brk }).map (·.status) = some .running ∧
    hostMove .restart { State.reset with status := .faulted 0x02 0x0600 } = none := by
  decide

/-- The loader: a later pair wins, and an image wraps past 0xFFFF (R331). -/
theorem test_loader :
    (bootstrap { image := [(0x0010, 0x01), (0x0010, 0x02)] }).read 0x0010 = 0x02 ∧
    (bootstrap { image := imageAt 0xFFFF [0xAA, 0xBB] }).read 0x0000 = 0xBB := by
  decide

/-- Writing 0x00 removes the entry: equal memories are equal data (log 7). -/
theorem test_memory_form : (load 0 [0x01] []).write 0 0x00 = load 0 [] [] := by
  decide

/-! ### Witnesses: concrete values that meet a statement's hypotheses -/

/-- A running state with `D` set, for the decimal statements. -/
def decimal (d : DecimalPolicy) : State := { load 0x0600 [0x69, 0x01] [] with p := 0x08, policy := { decimal := d } }

/-- A running state with cells at both ends of memory, in the canonical form. -/
def ends : State := { load 0x0600 [0xEA] [(0x0000, 0x12), (0xFFFF, 0x34)] with a := 0x5A, x := 0x20, y := 0xFF }

theorem witness_DecodedBytesAreTheEncoding : decode [0xA9, 0x80, 0x07] = .ok (.ldaImm 0x80, [0x07]) := rfl

theorem witness_WordsAreLittleEndian :
    (decodeBytes 0xAD 0xFF 0x02).mode = .absolute 0x02FF ∧ (decodeBytes 0xBD 0x00 0xFF).mode = .absoluteX 0xFF00 ∧
    (decodeBytes 0xB9 0xFF 0xFF).mode = .absoluteY 0xFFFF ∧ (decodeBytes 0x6C 0x00 0x00).mode = .indirect 0x0000 ∧
    (0xFFFE : Addr) ≠ 0xFFFF ∧ (0xFE : Byte) ≠ 0xFF ∧ (0xFFFE : Addr).toNat % 256 ≠ 255 := by
  decide

theorem witness_StepRunsTheInstructionAtPc :
    let s := load 0xFFFF [0xAD, 0x34, 0x12] []
    s.status = .running ∧ decode [s.read s.pc, s.read (s.pc + 1), s.read (s.pc + 2)] = .ok (.ldaAbs 0x1234, []) :=
  ⟨rfl, rfl⟩

theorem witness_NoStepUnlessRunning : State.reset.status ≠ .running := by
  decide

/-- One of each paying mode, and at the last address of the page none pays; nor does a store. -/
theorem witness_BegunAdvancesPcAndCharges :
    (ends.begun (.ldaAbsX 0x12E0)).cycles = 5 ∧ (ends.begun (.ldaAbsX 0x12DF)).cycles = 4 ∧
    (ends.begun (.ldaAbsY 0x1201)).cycles = 5 ∧ (ends.begun (.ldaAbsY 0x1200)).cycles = 4 ∧
    (ends.begun (.ldaIndY 0xFF)).cycles = 5 ∧ (ends.begun (.ldaIndY 0x00)).cycles = 6 ∧
    (ends.begun (.staAbsX 0x12E0)).cycles = 5 := by
  decide

theorem witness_TimingSummaryByMode :
    (∀ i ∈ ([.ldaImm 0, .ldaZp 0, .ldaZpX 0, .ldxZpY 0, .ldaAbs 0, .ldaAbsX 0, .ldaAbsY 0, .ldaIndX 0, .ldaIndY 0] :
      List Instr), i.descriptor.cls = .read) ∧
    (∀ i ∈ ([.staZp 0, .staZpX 0, .stxZpY 0, .staAbs 0, .staAbsX 0, .staAbsY 0, .staIndX 0, .staIndY 0] : List Instr),
      i.descriptor.cls = .write) ∧
    (∀ i ∈ ([.aslAcc, .aslZp 0, .aslZpX 0, .aslAbs 0, .aslAbsX 0, .sloAbsY 0, .sloIndX 0, .sloIndY 0] : List Instr),
      i.descriptor.cls = .rmw) ∧
    (∀ i ∈ ([.pha, .pla, .rts, .rti, .brk, .tax] : List Instr),
      i.descriptor.cls = .other ∧ i.mode = .implied ∧ i.descriptor.set ≠ .unmapped) ∧
    (Instr.jsrAbs 0).mnemonic = .jsr ∧
    (Instr.jmpAbs 0xFFFF).mnemonic = .jmp ∧ (Instr.jmpAbs 0xFFFF).mode = .absolute 0xFFFF ∧
    (Instr.jmpInd 0).mnemonic = .jmp ∧ (Instr.jmpInd 0).mode = .indirect 0 ∧
    (Instr.bne 0x80).descriptor.cls = .branch ∧ ∃ t, exec (.bne 0x80) ends = .next t := by
  exact ⟨by decide, by decide, by decide, by decide, rfl, rfl, rfl, rfl, rfl, rfl, _, rfl⟩

theorem witness_ByteWriteSetsOneByte : Memory.wf ends.mem = true ∧ (0x0000 : Addr) ≠ 0xFFFF := by
  decide

theorem witness_MemoryFormIsCanonical :
    let m : Memory := [(0, 0x12), (65535, 0x34)]
    Memory.wf m = true ∧ ∀ a : Addr, Memory.read m a.toNat = Memory.read m a.toNat :=
  ⟨rfl, fun _ => rfl⟩

theorem witness_WordAccessWrapsAtTheTop :
    Memory.wf ends.mem = true ∧ (0x0001 : Addr) ≠ 0xFFFF ∧ (0x0001 : Addr) ≠ 0xFFFF + 1 ∧
    ends.readWord 0xFFFF = 0x1234 := by
  decide

theorem witness_PushAndPull :
    (0x01FE : Addr) ≠ stackAddr ends.sp ∧ Memory.wf ends.mem = true ∧ ({ ends with sp := 0x00 } : State).sp = 0x00 ∧
    ends.sp = 0xFF := by
  decide

theorem witness_FlagSettersChangeOneBit : Flag.n.mask.getLsbD 5 = false ∧ Flag.c.mask.getLsbD 1 = false := by
  decide

theorem witness_SetNZWritesNAndZ : (0 : Nat) ≠ 7 ∧ (0 : Nat) ≠ 1 ∧ getFlag .n (setNZ 0x80 0) = true := by
  decide

theorem witness_OperandAccess :
    (Instr.ldaImm 0).descriptor.cls = .read ∧ (Instr.aslAcc).descriptor.cls = .rmw ∧
    (Instr.incZp 0xFF).descriptor.cls = .rmw ∧ (Instr.staIndY 0xFF).descriptor.cls = .write := by
  decide

theorem witness_LoadsWriteRegisterAndNZ :
    (Instr.ldaIndY 0xFF).mnemonic = .lda ∧ (Instr.ldxZpY 0xFF).mnemonic = .ldx ∧ (Instr.ldyAbsX 0xFFFF).mnemonic = .ldy := by
  decide

theorem witness_StoresWriteTheEffectiveAddress :
    (Instr.staAbsX 0xFFF0).mnemonic = .sta ∧ (ends.resolved (.staAbsX 0xFFF0)).opnd = .mem 0x0010 ∧
    (Instr.stxZpY 0xFF).mnemonic = .stx ∧ (ends.resolved (.stxZpY 0xFF)).opnd = .mem 0x00FE ∧
    (Instr.styAbs 0xFFFF).mnemonic = .sty ∧ (ends.resolved (.styAbs 0xFFFF)).opnd = .mem 0xFFFF := by
  decide

theorem witness_StatusOnTheStack : Memory.wf ends.mem = true ∧ ∃ t, exec .php ends = .next t := ⟨rfl, _, rfl⟩

/-- With `D` set under NMOS, with `D` set under Binary, and with `D` clear. -/
theorem witness_AdcAndSbcWriteResultAndNVZC :
    (Instr.adcImm 0x01).mapped (decimal .nmos).policy = true ∧ (Instr.usbcImm 0x01).mapped (decimal .nmos).policy = true ∧
    (decimal .nmos).flag .d = true ∧ (decimal .nmos).policy.decimal = .nmos ∧
    (decimal .binary).flag .d = true ∧ (decimal .binary).policy.decimal ≠ .refuse ∧ ends.flag .d = false ∧
    (Instr.adcImm 0x01).mnemonic = .adc ∧ (Instr.usbcImm 0x01).mnemonic = .sbc := by
  decide

theorem witness_ComparesWriteNZC :
    (Instr.cmpIndX 0xFF).mnemonic = .cmp ∧ (Instr.cpxImm 0).mnemonic = .cpx ∧ (Instr.cpyAbs 0xFFFF).mnemonic = .cpy := by
  decide

theorem witness_IncrementsAndDecrements :
    (ends.resolved (.incZpX 0xE0)).opnd = .mem 0x0000 ∧ (Instr.incZpX 0xE0).mnemonic = .inc ∧
    (ends.resolved (.decAbs 0xFFFF)).opnd = .mem 0xFFFF ∧ (Instr.decAbs 0xFFFF).mnemonic = .dec := by
  decide

theorem witness_LogicAndBitTest :
    (Instr.andImm 0).mnemonic = .and ∧ (Instr.oraIndY 0xFF).mnemonic = .ora ∧ (Instr.eorAbs 0).mnemonic = .eor ∧
    (Instr.bitZp 0xFF).mnemonic = .bit := by
  decide

theorem witness_ShiftsAndRotates :
    (Instr.aslAcc).mnemonic = .asl ∧ (Instr.lsrAbsX 0xFFFF).mnemonic = .lsr ∧ (Instr.rolZp 0).mnemonic = .rol ∧
    (Instr.rorAcc).mnemonic = .ror := by
  decide

/-- At the bottom of the stack, where both pushes wrap. -/
theorem witness_RtsAfterJsrReturnsToTheNextInstruction :
    Memory.wf ({ ends with sp := 0x00 } : State).mem = true ∧ ∃ t, exec (.jsrAbs 0x1234) { ends with sp := 0x00 } = .next t :=
  ⟨rfl, _, rfl⟩

theorem witness_NopsDoNothing :
    (Instr.nopAbsX1C 0xFFFF).mnemonic = .nop ∧ (Instr.nopAbsX1C 0xFFFF).mapped ends.policy = true ∧
    Instr.nop.mapped { illegal := .none } = true := by
  decide

theorem witness_IllegalReadModifyWrite :
    ends.policy.illegal = .stable ∧ (ends.resolved (.sloAbsY 0x0001)).opnd = .mem 0x0100 ∧
    (Instr.sloAbsY 0x0001).mnemonic = .slo ∧ (ends.resolved (.rlaZp 0xFF)).opnd = .mem 0x00FF ∧
    (Instr.rlaZp 0xFF).mnemonic = .rla ∧ (ends.resolved (.sreAbs 0)).opnd = .mem 0x0000 ∧
    (Instr.sreAbs 0).mnemonic = .sre ∧ (ends.resolved (.dcpIndX 0xE0)).opnd = .mem 0x0012 ∧
    (Instr.dcpIndX 0xE0).mnemonic = .dcp := by
  decide

/-- RRA and ISC with `D` set under NMOS and with `D` clear; ARR with `D` set under Binary and with `D` clear. -/
theorem witness_IllegalAddSubtractAndArr :
    (decimal .nmos).policy.illegal = .stable ∧ ((decimal .nmos).resolved (.rraZp 0xFF)).opnd = .mem 0x00FF ∧
    (decimal .nmos).flag .d = true ∧ (decimal .nmos).policy.decimal ≠ .refuse ∧ (Instr.rraZp 0xFF).mnemonic = .rra ∧
    (ends.resolved (.iscAbs 0xFFFF)).opnd = .mem 0xFFFF ∧ ends.flag .d = false ∧ (Instr.iscAbs 0xFFFF).mnemonic = .isc ∧
    (decimal .binary).policy.illegal = .stable ∧ (decimal .binary).flag .d = true ∧
    (decimal .binary).policy.decimal = .binary := by
  decide

theorem witness_IllegalLoadsStoresAndImmediates :
    ends.policy.illegal = .stable ∧ (ends.resolved (.saxZpY 0x01)).opnd = .mem 0x0000 ∧
    (Instr.saxZpY 0x01).mnemonic = .sax ∧ (ends.resolved (.laxAbs 0xFFFF)).opnd = .mem 0xFFFF ∧
    (Instr.laxAbs 0xFFFF).mnemonic = .lax := by
  decide

theorem witness_UnmappedBytesFault :
    (Instr.laxZp 0).descriptor.set = .illegal ∧ ({ ends with policy := { illegal := .none } } : State).policy.illegal = .none := by
  decide

/-- Each mnemonic under `Refuse`, and ARR under `NMOS`. -/
theorem witness_DecimalModeRefusal :
    (decimal .refuse).flag .d = true ∧ (decimal .refuse).policy.decimal = .refuse ∧
    (∀ i ∈ ([.adcImm 0, .sbcImm 0, .usbcImm 0, .rraZp 0, .iscZp 0] : List Instr), i.mapped (decimal .refuse).policy = true ∧
      i.mnemonic ∈ ([.adc, .sbc, .rra, .isc] : List Mnemonic)) ∧
    (Instr.arrImm 0).mapped (decimal .nmos).policy = true ∧ (decimal .nmos).flag .d = true ∧
    (Instr.arrImm 0).mnemonic = .arr ∧ (decimal .nmos).policy.decimal ≠ .binary := by
  decide

/-- An unmapped byte, a refused one, BRK, and a plain one. -/
theorem witness_StepEndsInOneOutcome :
    let s1 := load 0x0600 [0xF2] []
    let s2 := decimal .refuse
    let s3 := load 0x0600 [0x00] []
    (s1.status = .running ∧ s1.fetched.mapped s1.policy = false) ∧
    (s2.status = .running ∧ s2.fetched.mapped s2.policy = true ∧ s2.decimalRefused s2.fetched.mnemonic = true) ∧
    (s3.status = .running ∧ s3.fetched.mapped s3.policy = true ∧ s3.decimalRefused s3.fetched.mnemonic = false ∧
      s3.fetched.mnemonic = .brk) ∧
    (ends.status = .running ∧ ends.fetched.mapped ends.policy = true ∧
      ends.decimalRefused ends.fetched.mnemonic = false ∧ ends.fetched.mnemonic ≠ .brk) := by
  decide

/-- STA stands outside all three lists, CLC outside the first and INX outside the last two. -/
theorem witness_FlagsChangedOnlyByTheirWriters :
    let nz : List Mnemonic := [.lda, .ldx, .ldy, .tax, .tay, .txa, .tya, .tsx, .pla, .adc, .sbc, .cmp, .cpx, .cpy, .inc,
      .inx, .iny, .dec, .dex, .dey, .and, .ora, .eor, .bit, .asl, .lsr, .rol, .ror, .plp, .rti, .slo, .rla, .sre, .rra,
      .lax, .dcp, .isc, .anc, .alr, .arr, .sbx]
    let v : List Mnemonic := [.adc, .sbc, .bit, .clv, .plp, .rti, .rra, .isc, .arr]
    let c : List Mnemonic := [.adc, .sbc, .cmp, .cpx, .cpy, .asl, .lsr, .rol, .ror, .clc, .sec, .plp, .rti, .slo, .rla,
      .sre, .rra, .dcp, .isc, .anc, .alr, .arr, .sbx]
    ((∃ t, exec (.staZp 0xFF) ends = .next t) ∧ Mnemonic.sta ∉ nz ∧ Mnemonic.sta ∉ v ∧ Mnemonic.sta ∉ c) ∧
    ((∃ t, exec .clc ends = .next t) ∧ Mnemonic.clc ∉ nz) ∧
    ((∃ t, exec .inx ends = .next t) ∧ Mnemonic.inx ∉ v ∧ Mnemonic.inx ∉ c) :=
  ⟨⟨⟨_, rfl⟩, by decide, by decide, by decide⟩, ⟨⟨_, rfl⟩, by decide⟩, ⟨_, rfl⟩, by decide, by decide⟩

theorem witness_ControlBitsOfPChangeOnlyByTheirWriters :
    (∃ t, exec (.ldaImm 0x00) { ends with p := 0x10 } = .next t) ∧ ({ ends with p := 0x10 } : State).flag .b = true ∧
    (Instr.ldaImm 0x00).mnemonic ∉ ([.sed, .cld, .plp, .rti] : List Mnemonic) ∧
    (Instr.ldaImm 0x00).mnemonic ∉ ([.sei, .cli, .plp, .rti] : List Mnemonic) ∧ (Instr.ldaImm 0x00).mnemonic ≠ .brk :=
  ⟨⟨_, rfl⟩, by decide, by decide, by decide, by decide⟩

/-- INC stands outside all five lists and executes; so does ASL on memory, which is no accumulator form. -/
theorem witness_RegistersChangedOnlyByTheirWriters :
    let m := (Instr.incZp 0xFF).mnemonic
    (∃ t, exec (.incZp 0xFF) ends = .next t) ∧ Executes (.incZp 0xFF) ends ∧ (Instr.incZp 0xFF).mode ≠ .accumulator ∧
    m ∉ ([.lda, .txa, .tya, .pla, .adc, .sbc, .and, .ora, .eor, .slo, .rla, .sre, .rra, .isc, .lax, .anc, .alr, .arr] :
      List Mnemonic) ∧
    m ∉ ([.ldx, .tax, .tsx, .inx, .dex, .lax, .sbx] : List Mnemonic) ∧
    m ∉ ([.ldy, .tay, .iny, .dey] : List Mnemonic) ∧
    m ∉ ([.txs, .pha, .php, .pla, .plp, .jsr, .rts, .rti] : List Mnemonic) ∧
    m ∉ ([.bpl, .bmi, .bvc, .bvs, .bcc, .bcs, .bne, .beq, .jmp, .jsr, .rts, .rti] : List Mnemonic) ∧
    (∃ t, exec (.aslZp 0xFF) ends = .next t) ∧ (Instr.aslZp 0xFF).mode ≠ .accumulator :=
  ⟨⟨_, rfl⟩, ⟨rfl, by decide⟩, by decide, by decide, by decide, by decide, by decide, by decide, ⟨_, rfl⟩, by decide⟩

/-- A store, a read-modify-write on A, PHA, JSR at the bottom of the stack, and a load. -/
theorem witness_MemoryChangedOnlyWhereStored :
    ((∃ t, exec (.staAbs 0xFFFF) ends = .next t) ∧ (Instr.staAbs 0xFFFF).descriptor.cls = .write ∧
      (ends.resolved (.staAbs 0xFFFF)).opnd = .mem 0xFFFF) ∧
    ((∃ t, exec .rorAcc ends = .next t) ∧ Instr.rorAcc.descriptor.cls = .rmw ∧ (ends.resolved .rorAcc).opnd = .acc) ∧
    (∃ t, exec .pha ends = .next t) ∧ (∃ t, exec (.jsrAbs 0) { ends with sp := 0x00 } = .next t) ∧
    ((∃ t, exec (.ldaZp 0) ends = .next t) ∧ (Instr.ldaZp 0).descriptor.cls = .read) :=
  ⟨⟨⟨_, rfl⟩, rfl, rfl⟩, ⟨⟨_, rfl⟩, rfl, rfl⟩, ⟨_, rfl⟩, ⟨_, rfl⟩, ⟨_, rfl⟩, rfl⟩

/-- At the top of memory, where the next instruction is at 0x0001, each storing form in its absolute mode; then PHA and PHP
just below the top of the stack, and JSR to each of the two bytes it pushes. The bytes expected are worked out by hand from
A = 0x7A, X = 0x20, Y = 0xFF, C = 1 and M[0x0001] = 0x81. -/
theorem witness_StoreIsSeenByTheNextFetch :
    let s : State := { load 0xFFFE [] [(0x0001, 0x81)] with a := 0x7A, x := 0x20, y := 0xFF, p := 0x01 }
    let u : State := { s with pc := 0x01FE }
    let seen (i : Instr) (s : State) (v : Byte) : Bool :=
      match exec i s with
      | .next t => t.fetched.opcode == v
      | .fault _ | .refused _ => false
    (Memory.wf s.mem = true ∧
      ∀ iv ∈ ([(.staAbs 1, 0x7A), (.stxAbs 1, 0x20), (.styAbs 1, 0xFF), (.saxAbs 1, 0x20), (.aslAbs 1, 0x02),
          (.sloAbs 1, 0x02), (.lsrAbs 1, 0x40), (.sreAbs 1, 0x40), (.rolAbs 1, 0x03), (.rlaAbs 1, 0x03), (.rorAbs 1, 0xC0),
          (.rraAbs 1, 0xC0), (.incAbs 1, 0x82), (.iscAbs 1, 0x82), (.decAbs 1, 0x80), (.dcpAbs 1, 0x80)] :
          List (Instr × Byte)),
        (iv.1.mapped s.policy = true ∧ s.decimalRefused iv.1.mnemonic = false) ∧
        (s.resolved iv.1).opnd = .mem (s.pc + BitVec.ofNat 16 iv.1.length) ∧ seen iv.1 s iv.2 = true) ∧
    (stackAddr u.sp = u.pc + 1 ∧ seen .pha u 0x7A = true ∧ seen .php u 0x31 = true) ∧
    (stackAddr u.sp = 0x01FF ∧ seen (.jsrAbs 0x01FF) u 0x02 = true) ∧
    (stackAddr (u.sp - 1) = 0x01FE ∧ seen (.jsrAbs 0x01FE) u 0x00 = true) := by
  decide

theorem witness_CyclesAreNeverRead : ∃ t, exec (.bne 0x80) ends = .next t := ⟨_, rfl⟩

theorem witness_InterruptFlagHasNoEffect : Instr.plp.mnemonic ≠ .php ∧ ∃ t, exec .plp ends = .next t :=
  ⟨by decide, _, rfl⟩

theorem witness_DecimalPolicyMattersOnlyWithDSet :
    ends.flag .d = false ∧ ∃ t, exec (.adcImm 0x99) ends = .next t := ⟨rfl, _, rfl⟩

theorem witness_HostMoves :
    State.reset.status = .idle ∧ ends.status = .running ∧
    ({ ends with status := .halted .brk } : State).status = .halted .brk ∧ ends.status ≠ .idle ∧
    State.reset.status ≠ .running ∧ ∀ r, ({ ends with status := .faulted 0x02 0 } : State).status ≠ .halted r :=
  ⟨rfl, rfl, rfl, by decide, by decide, fun _ => Status.noConfusion⟩

theorem witness_BootstrapAndHostMovesKeepTheInvariant :
    Inv State.reset ∧ hostMove .start State.reset = some { State.reset with status := .running } :=
  ⟨⟨rfl, rfl, trivial⟩, rfl⟩

/-- A step of each ending from a state with the invariant. -/
theorem witness_StepKeepsTheInvariant :
    (Inv ends ∧ ∃ t, step ends = .next t) ∧
    (Inv (decimal .refuse) ∧ ∃ t, step (decimal .refuse) = .next t) ∧
    (Inv (load 0x0600 [0x00] []) ∧ ∃ t, step (load 0x0600 [0x00] []) = .next t) ∧
    (Inv (load 0xFFFF [0x02] []) ∧ ∃ t, step (load 0xFFFF [0x02] []) = .next t) :=
  ⟨⟨⟨rfl, rfl, trivial⟩, _, rfl⟩, ⟨⟨rfl, rfl, trivial⟩, _, rfl⟩, ⟨⟨rfl, rfl, trivial⟩, _, rfl⟩,
    ⟨⟨rfl, rfl, trivial⟩, _, rfl⟩⟩

/-- Bootstrap, the start move, and one step. -/
theorem witness_EveryReachableStateHasTheInvariant :
    ∃ s t, Reachable {} s ∧ step s = .next t ∧ Reachable {} t :=
  ⟨_, _, .host .start .boot rfl, rfl, .step (.host .start .boot rfl) rfl⟩

end Sys2Proof.Tests
end

section
/-! The flag accessors of `P` against 10_state.md R27 and R28. -/

namespace Sys2Proof.Proofs

open Sys2Proof.Machine

/-- A mask has its flag's own bit set (R27). -/
theorem getLsbD_mask_bit (f : Flag) : f.mask.getLsbD f.bit = true := by
  rw [f.mask_eq, BitVec.getLsbD_twoPow]
  simp [f.bit_lt]

/-- A setter leaves every bit outside its flag's mask alone (R28). -/
theorem getLsbD_setFlag_of_mask {f : Flag} {k : Nat} (hk : f.mask.getLsbD k = false) (v : Bool) (p : Byte) :
    (setFlag f v p).getLsbD k = p.getLsbD k := by
  have hne : k ≠ f.bit := by
    rintro rfl
    exact Bool.noConfusion ((getLsbD_mask_bit f).symm.trans hk)
  rw [getLsbD_setFlag, if_neg hne]

/-- No flag is at bit 5 (R27, R30). -/
theorem getLsbD_mask_five (f : Flag) : f.mask.getLsbD 5 = false := by cases f <;> rfl

/-- A get tests the masked byte against zero (R28). -/
theorem getFlag_eq_decide_and_mask (f : Flag) (p : Byte) : getFlag f p = decide (p &&& f.mask ≠ 0) := by
  rw [getFlag, Bool.eq_iff_iff, bne_iff_ne, decide_eq_true_iff]

/-- Settles O14: the masks and the setter's shape are the definitions'; a get reads its flag's bit, and a setter writes
that bit and no other. -/
theorem flagSettersChangeOneBit : Obligations.FlagSettersChangeOneBit := by
  have hmasks : Flag.mask .n = 0x80 ∧ Flag.mask .v = 0x40 ∧ Flag.mask .b = 0x10 ∧ Flag.mask .d = 0x08 ∧
      Flag.mask .i = 0x04 ∧ Flag.mask .z = 0x02 ∧ Flag.mask .c = 0x01 := by decide
  have hget : ∀ (f : Flag) (p : Byte), getFlag f p = p.getLsbD f.bit := getFlag_eq_getLsbD
  refine ⟨hmasks, fun p => ⟨hget .n p, hget .v p, hget .b p, hget .d p, hget .i p, hget .z p, hget .c p⟩, ?_⟩
  intro f v p
  exact ⟨getLsbD_mask_five f, rfl, getFlag_eq_decide_and_mask f p, getFlag_setFlag_same f v p,
    fun _ hk => getLsbD_setFlag_of_mask hk v p⟩

end Sys2Proof.Proofs
end

section
/-! Memory and the stack against 20_memory.md R51 to R62: the byte order of operands, words and pointers, the byte write,
and push and pull on page 0x01. -/

namespace Sys2Proof.Proofs

open Sys2Proof.Machine

/-! ### Byte order (R56) -/

/-- A mode the decoder gives holds the bytes after the opcode, in the order they are stored, as many as it needs. Row by
row of R102's grid, with `wordOfBytes` taken apart again by `lowByte` and `highByte`. -/
theorem operandBytes_decodeBytes (op b c : Byte) : (decodeBytes op b c).mode.operandBytes <+: [b, c] := by
  unfold decodeBytes
  dsimp only
  split
  all_goals
    dsimp only [decodeRow0, decodeRow1, decodeRow2, decodeRow3, decodeRow4, decodeRow5, decodeRow6, decodeRow7,
      decodeRow8, decodeRow9, decodeRowA, decodeRowB, decodeRowC, decodeRowD, decodeRowE, decodeRowF]
    split <;> simp [Instr.mode, Instr.descriptor, AddrMode.operandBytes]

/-- A 16-bit operand is the two bytes after the opcode, low byte first. -/
theorem toNat_decodeBytes_word {op lo hi : Byte} {w : Addr}
    (h : (decodeBytes op lo hi).mode.operandBytes = [lowByte w, highByte w]) : w.toNat = lo.toNat + 256 * hi.toNat := by
  have hstored : [lowByte w, highByte w] <+: [lo, hi] := h ▸ operandBytes_decodeBytes op lo hi
  obtain ⟨rfl, rfl⟩ : lowByte w = lo ∧ highByte w = hi := by simpa using hstored
  rw [← wordOfBytes_toNat, wordOfBytes_bytes]

/-- Page zero is addressed by the byte itself (R90). -/
theorem toNat_zeroPageAddr (b : Byte) : (zeroPageAddr b).toNat = b.toNat :=
  BitVec.toNat_setWidth_of_le (by decide)

/-- Below the end of page zero the next byte is at the next address. -/
theorem zeroPageAddr_add_one {b : Byte} (hb : b ≠ 0xFF) : zeroPageAddr (b + 1) = zeroPageAddr b + 1 := by
  have hlt : b.toNat ≠ 255 := fun h => hb (BitVec.eq_of_toNat_eq h)
  apply BitVec.eq_of_toNat_eq
  simp only [BitVec.toNat_add, toNat_zeroPageAddr, BitVec.reduceToNat]
  omega

/-- The page of one address with the place within the page of another, by masks (R96). -/
theorem or_page_masks (x y : Addr) :
    (x &&& 0xFF00) ||| (y &&& 0x00FF) = wordOfBytes (highByte x) (lowByte y) := by
  apply BitVec.eq_of_getLsbD_eq
  intro i hi
  have hpage : (0xFF00 : Addr).getLsbD i = decide (8 ≤ i) := by
    revert i
    decide
  have hplace : (0x00FF : Addr).getLsbD i = decide (i < 8) := by
    revert i
    decide
  rw [BitVec.getLsbD_or, BitVec.getLsbD_and, BitVec.getLsbD_and, hpage, hplace, wordOfBytes, BitVec.getLsbD_append,
    lowByte, highByte, BitVec.getLsbD_extractLsb', BitVec.getLsbD_extractLsb']
  by_cases h : i < 8
  · simp [h]
  · simp [h, Nat.le_of_not_lt h, show i - 8 < 8 by omega]

/-- Where the pointer is not at the end of its page, its high byte is at the next address (R96). -/
theorem page_masks_eq_add_one {ptr : Addr} (h : ptr.toNat % 256 ≠ 255) :
    (ptr &&& 0xFF00) ||| ((ptr + 1) &&& 0x00FF) = ptr + 1 := by
  have hsucc : (ptr + 1).toNat = ptr.toNat + 1 := by
    rw [BitVec.toNat_add, show (1 : Addr).toNat = 1 from rfl]
    omega
  have hpage : highByte ptr = highByte (ptr + 1) := by
    apply BitVec.eq_of_toNat_eq
    rw [highByte_toNat, highByte_toNat, hsucc]
    omega
  rw [or_page_masks, hpage, wordOfBytes_bytes]

/-- A word of memory is little-endian, wherever its two bytes are (R53). -/
theorem toNat_readWord (s : State) (a : Addr) : (s.readWord a).toNat = (s.read a).toNat + 256 * (s.read (a + 1)).toNat :=
  wordOfBytes_toNat _ _

/-- Settles O5: every word is `wordOfBytes` of two bytes; what is left is that the high byte's address is the next one. -/
theorem wordsAreLittleEndian : Obligations.WordsAreLittleEndian := by
  refine ⟨fun op lo hi w hmode => ?operand, fun s =>
    ⟨fun a _ => ?word, fun b hb => ?zeroPage, fun ptr hptr => ?indirect⟩⟩
  case operand =>
    have hbytes : (decodeBytes op lo hi).mode.operandBytes = [lowByte w, highByte w] := by
      rcases hmode with h | h | h | h <;> rw [h] <;> rfl
    exact toNat_decodeBytes_word hbytes
  case word => exact toNat_readWord s a
  case zeroPage => rw [State.zeroPageWord, wordOfBytes_toNat, zeroPageAddr_add_one hb]
  case indirect => rw [State.indirectWord, wordOfBytes_toNat, page_masks_eq_add_one hptr]

/-! ### The byte write (R52) -/

/-- A read answers the byte just written there (R51, R52). -/
theorem read_write_same (s : State) (h : Memory.wf s.mem = true) (a : Addr) (v : Byte) : (s.write a v).read a = v := by
  rw [State.read_write s h, if_pos rfl]

/-- Settles O10: the byte written, then every other byte, by the laws of a write; the frame is the definition's. -/
theorem byteWriteSetsOneByte : Obligations.ByteWriteSetsOneByte := by
  intro s a v hwf
  exact ⟨read_write_same s hwf a v, fun _ hb => State.read_write_of_ne s hb v, rfl⟩

/-! ### The stack (R60 to R62) -/

/-- The stack is page 0x01: no carry leaves the low byte. -/
theorem toNat_stackAddr (sp : Byte) : (stackAddr sp).toNat = 0x0100 + sp.toNat := by
  have hsp : (sp.setWidth 16).toNat = sp.toNat := toNat_zeroPageAddr sp
  rw [stackAddr, BitVec.toNat_add, hsp, show (0x0100 : Addr).toNat = 0x0100 from rfl]
  omega

/-- A push leaves every byte but the one at its stack address alone (R60). -/
theorem read_push_of_ne (s : State) (v : Byte) {b : Addr} (hb : b ≠ stackAddr s.sp) : (s.push v).read b = s.read b :=
  State.read_write_of_ne s hb v

/-- The byte pushed stands at the stack address it was pushed to (R60). -/
theorem read_push_same (s : State) (h : Memory.wf s.mem = true) (v : Byte) : (s.push v).read (stackAddr s.sp) = v :=
  (State.read_of_mem (s.write (stackAddr s.sp) v) (s.push v) _ rfl).trans (read_write_same s h _ v)

/-- Settles O13: the address and the two bytes, by the laws of push and pull; the frames are their definitions'; the wraps
are 8-bit arithmetic at the two ends. -/
theorem pushAndPull : Obligations.PushAndPull := by
  intro s v
  have hbottom : s.sp = 0x00 → stackAddr s.sp = 0x0100 ∧ (s.push v).sp = 0xFF := by
    intro h
    rw [State.push_sp, h]
    decide
  have htop : s.sp = 0xFF → s.pull.sp = 0x00 ∧ s.pulled = s.read 0x0100 := by
    intro h
    rw [State.pull_sp, State.pulled, h]
    exact ⟨rfl, rfl⟩
  exact ⟨toNat_stackAddr s.sp, fun _ hb => read_push_of_ne s v hb, rfl, rfl, rfl, State.pull_push_sp s v,
    fun hwf => ⟨read_push_same s hwf v, State.pulled_push s hwf v⟩, hbottom, htop⟩

end Sys2Proof.Proofs
end

section
/-! Operands against 30_encoding.md: what the modes R87 to R93 and R99 resolve to, and which operands the classes of the
table's rows meet (R101). -/

namespace Sys2Proof.Proofs

open Sys2Proof.Machine

/-! ### The direct modes (R87 to R93, R99) -/

/-- An index within page zero leaves no carry (R91, R92). -/
theorem toNat_zeroPageAddr_add (b index : Byte) :
    (zeroPageAddr (b + index)).toNat = (b.toNat + index.toNat) % 256 := by
  rw [toNat_zeroPageAddr, BitVec.toNat_add]

/-- A relative target is the signed offset added modulo 2^16 (R99). -/
theorem toNat_add_signExtend (pc : Addr) (off : Byte) :
    ((pc + off.signExtend 16).toNat : Int) = ((pc.toNat : Int) + off.toInt) % 65536 := by
  have hoff : off.signExtend 16 = BitVec.ofInt 16 off.toInt := rfl
  rw [hoff, BitVec.toNat_add, BitVec.toNat_ofInt]
  omega

/-- Settles O16: each mode's operand is the resolver's own equation; what is left is each address in numbers. -/
theorem directModesResolve : Obligations.DirectModesResolve := by
  intro s b w
  exact ⟨rfl, rfl, rfl, rfl, ⟨_, rfl, toNat_zeroPageAddr b⟩, ⟨_, rfl, toNat_zeroPageAddr_add b s.x⟩,
    ⟨_, rfl, toNat_zeroPageAddr_add b s.y⟩, ⟨_, rfl, toNat_add_signExtend s.pc b⟩⟩

/-! ### Reading and writing an operand (R101) -/

/-- The operands R101 lets a row of the class access: a read row reads `Imm` or `Mem`, a read-modify-write row reads and
writes `Acc` or `Mem`, a write row writes `Mem`. R101 says nothing of the other classes. -/
def takesOperand : OpClass → Operand → Bool
  | .read, .imm _ | .read, .mem _ | .rmw, .acc | .rmw, .mem _ | .write, .mem _ => true
  | .read, _ | .rmw, _ | .write, _ => false
  | .branch, _ | .other, _ => true

theorem takesOperand_read {o : Operand} : takesOperand .read o = true ↔ (∃ v, o = .imm v) ∨ ∃ ea, o = .mem ea := by
  cases o <;> simp [takesOperand]

theorem takesOperand_rmw {o : Operand} : takesOperand .rmw o = true ↔ o = .acc ∨ ∃ ea, o = .mem ea := by
  cases o <;> simp [takesOperand]

theorem takesOperand_write {o : Operand} : takesOperand .write o = true ↔ ∃ ea, o = .mem ea := by
  cases o <;> simp [takesOperand]

/-- No row of the table combines a class with a mode whose operand R101 leaves out: row by row of R102's table, in any
state. -/
theorem takesOperand_resolved (i : Instr) (s : State) : takesOperand i.descriptor.cls (s.resolved i).opnd = true := by
  cases i <;> rfl

/-- Settles O18: the accesses are their definitions' equations; a row's class says which operands it can meet. -/
theorem operandAccess : Obligations.OperandAccess := by
  refine ⟨fun s v ea => ⟨rfl, rfl, rfl, rfl, rfl⟩, fun i s => ?_⟩
  have hrow := takesOperand_resolved i s
  exact ⟨fun hcls => takesOperand_read.mp (hcls ▸ hrow), fun hcls => takesOperand_rmw.mp (hcls ▸ hrow),
    fun hcls => takesOperand_write.mp (hcls ▸ hrow)⟩

end Sys2Proof.Proofs
end

section
/-! Loads and stores against 40_load_store.md: LDA, LDX, LDY, STA, STX and STY in every mode (R131 to R136). -/

namespace Sys2Proof.Proofs

open Sys2Proof.Machine

/-! ### The mnemonics that always run their rule (R84, R103, R172) -/

/-- Every row of the mnemonic is legal (R103), and `Refused(d, P)` does not name it (R172): neither the illegal-opcode
fault nor the decimal refusal can come before its rule. -/
def alwaysRuns : Mnemonic → Bool
  | .slo | .rla | .sre | .rra | .dcp | .isc | .sax | .lax | .anc | .alr | .arr | .sbx
  | .jam | .ane | .lxa | .sha | .tas | .shy | .shx | .las | .nop | .adc | .sbc => false
  | _ => true

theorem set_eq_legal_of_alwaysRuns {i : Instr} (h : alwaysRuns i.mnemonic = true) : i.descriptor.set = .legal := by
  have hset := set_of_mnemonic i
  revert h hset
  cases i.mnemonic <;> first | exact fun _ hset => hset | exact fun h => Bool.noConfusion h

theorem decimalRefused_of_alwaysRuns {m : Mnemonic} (h : alwaysRuns m = true) (s : State) :
    s.decimalRefused m = false := by
  apply decimalRefused_eq_false
  refine ⟨?_, ?_, ?_, ?_, ?_⟩ <;> rintro rfl <;> exact Bool.noConfusion h

/-- Such an instruction runs its mnemonic's rule in every state and under every setting (R84). -/
theorem exec_of_alwaysRuns {i : Instr} {m : Mnemonic} (hi : i.mnemonic = m) (h : alwaysRuns m = true) (s : State) :
    exec i s = .next (ruleOf m (s.resolved i).opnd (s.begun i)) := by
  subst hi
  exact exec_runs i s (mapped_of_legal (set_eq_legal_of_alwaysRuns h) _) (decimalRefused_of_alwaysRuns h s)

/-! ### Loads (R131 to R133) -/

/-- Settles O19: a load always runs its rule, and the advance of `PC` and `cycles` before it leaves the operand as it
was. -/
theorem loadsWriteRegisterAndNZ : Obligations.LoadsWriteRegisterAndNZ := by
  intro i s b m
  have hm : readOperand b (s.resolved i).opnd = m := readOperand_begun s i _
  refine ⟨fun h => ?lda, fun h => ?ldx, fun h => ?ldy⟩
  all_goals
    rw [exec_of_alwaysRuns h rfl, ← hm]
    rfl

/-! ### Stores (R134 to R136) -/

/-- Settles O20: a store always runs its rule, which at a `Mem` operand is the byte write. -/
theorem storesWriteTheEffectiveAddress : Obligations.StoresWriteTheEffectiveAddress := by
  intro i s ea hea
  have hruns {m : Mnemonic} (hi : i.mnemonic = m) (h : alwaysRuns m = true) :
      exec i s = .next (ruleOf m (.mem ea) (s.begun i)) := hea ▸ exec_of_alwaysRuns hi h s
  exact ⟨fun h => hruns h rfl, fun h => hruns h rfl, fun h => hruns h rfl⟩

end Sys2Proof.Proofs
end

section
/-! Transfers and the accumulator on the stack against 41_transfer_stack.md: TAX, TAY, TXA, TYA, TSX, TXS, PHA and PLA
(R150 to R156, R158). -/

namespace Sys2Proof.Proofs

open Sys2Proof.Machine

/-! ### Implied instructions that always run their rule (R84, R87) -/

/-- An implied instruction is one byte long and crosses no page, so it is charged its row's base cost alone (R87, R100). -/
theorem begun_of_implied {i : Instr} (h : i.mode = .implied) (s : State) :
    s.begun i = { s with pc := s.pc + 1, cycles := s.cycles + i.descriptor.base } := by
  have hlen : i.length = 1 := congrArg AddrMode.length h
  have hcost : s.cost i = i.descriptor.base := by simp [State.cost, State.resolved, h, resolve]
  rw [State.begun, State.pastInstr, hlen, hcost]
  rfl

/-- An implied instruction that nothing stops runs its rule on no operand, `PC` being past its one byte (R84, R87). -/
theorem exec_of_implied {i : Instr} (h : alwaysRuns i.mnemonic = true) (hmode : i.mode = .implied) (s : State) :
    exec i s =
      .next (ruleOf i.mnemonic .none { s with pc := s.pc + 1, cycles := s.cycles + i.descriptor.base }) := by
  have hopnd : (s.resolved i).opnd = .none := by rw [State.resolved, hmode, resolve]
  rw [exec_of_alwaysRuns rfl h, hopnd, begun_of_implied hmode]

/-! ### The eight instructions (R150 to R156, R158) -/

/-- Settles O21: each always runs its rule, one byte and its base cost further on; the rule's writes there, the push and
the pull among them, are the equation's by definition. -/
theorem transfersAndAccumulatorStack : Obligations.TransfersAndAccumulatorStack := by
  intro s b pulled
  refine ⟨?tax, ?tay, ?txa, ?tya, ?tsx, ?txs, ?pha, ?pla⟩
  all_goals exact exec_of_implied rfl rfl s

end Sys2Proof.Proofs
end

section
/-! Arithmetic against 42_arithmetic.md: binary addition (R170), CMP, CPX and CPY in every mode (R177 to R180), and the
increments and decrements of memory and of X and Y (R181 to R186). -/

namespace Sys2Proof.Proofs

open Sys2Proof.Machine

/-! ### Binary addition (R170) -/

/-- Bit 7 of a byte says whether its unsigned value is in the upper half. -/
theorem getLsbD_seven (x : Byte) : x.getLsbD 7 = decide (128 ≤ x.toNat) :=
  (BitVec.msb_eq_getLsbD_last x).symm.trans (BitVec.msb_eq_decide x)

/-- A byte in the upper half is signed 256 below its unsigned value, one in the lower half is its unsigned value. -/
theorem toInt_eq_ite (x : Byte) : x.toInt = if 128 ≤ x.toNat then (x.toNat : Int) - 256 else x.toNat := by
  rw [BitVec.toInt_eq_msb_cond, BitVec.msb_eq_decide]
  simp only [decide_eq_true_eq]
  rfl

/-- The result with its carry as bit 8 is the sum of the three unsigned values. -/
theorem addBinary_value_carry (a m : Byte) (c : Bool) :
    (addBinary a m c).value.toNat + 256 * (addBinary a m c).c.toNat = a.toNat + m.toNat + c.toNat := by
  have hc := c.toNat_le
  simp only [addBinary, BitVec.toNat_ofNat]
  by_cases h : a.toNat + m.toNat + c.toNat > 0xFF
  · rw [decide_eq_true h, Bool.toNat_true]
    omega
  · rw [decide_eq_false h, Bool.toNat_false]
    omega

/-- V is the sign-mismatch test: the operands agree in sign and the result does not. -/
theorem addBinary_v_iff_sign_mismatch (a m : Byte) (c : Bool) :
    (addBinary a m c).v = true ↔
      a.getLsbD 7 = m.getLsbD 7 ∧ a.getLsbD 7 ≠ (addBinary a m c).value.getLsbD 7 := by
  simp only [addBinary, Bool.and_eq_true, beq_iff_eq, bne_iff_ne]

/-- The signs mismatch exactly when the signed sum is no signed byte: operands of two signs cannot leave the range, and
those of one sign leave it exactly when bit 7 of the result is the other sign. -/
theorem sign_mismatch_iff_out_of_range (a m : Byte) (c : Bool) :
    (a.getLsbD 7 = m.getLsbD 7 ∧ a.getLsbD 7 ≠ (addBinary a m c).value.getLsbD 7) ↔
      a.toInt + m.toInt + c.toNat < -128 ∨ 127 < a.toInt + m.toInt + c.toNat := by
  have hc := c.toNat_le
  have hsum := addBinary_value_carry a m c
  have hcarry := (addBinary a m c).c.toNat_le
  simp only [getLsbD_seven, toInt_eq_ite, ne_eq, decide_eq_decide]
  by_cases hsigns : 128 ≤ a.toNat ↔ 128 ≤ m.toNat
  case pos => omega
  case neg => omega

/-- Settles O23: the exact sum with its carry, the sign-mismatch test and its meaning as a range; N and Z are the
definition's. -/
theorem binaryAdditionIsExact : Obligations.BinaryAdditionIsExact := by
  intro a m c r
  have hv := addBinary_v_iff_sign_mismatch a m c
  exact ⟨addBinary_value_carry a m c, hv, hv.trans (sign_mismatch_iff_out_of_range a m c), rfl, beq_iff_eq⟩

/-! ### Compares (R177 to R180) -/

/-- The 8 low bits of the exact difference are the difference modulo 256. -/
theorem ofInt_toNat_sub_toNat (x y : Byte) : BitVec.ofInt 8 ((x.toNat : Int) - y.toNat) = x - y := by
  rw [Int.sub_eq_add_neg, BitVec.ofInt_add, BitVec.ofInt_neg, BitVec.ofInt_natCast, BitVec.ofInt_natCast,
    BitVec.ofNat_toNat, BitVec.ofNat_toNat, BitVec.setWidth_eq, BitVec.setWidth_eq, BitVec.sub_eq_add_neg]

/-- A compare is C from the unsigned comparison, then N and Z from the 8-bit difference (R177). -/
theorem compareFlags_eq (reg m p : Byte) :
    compareFlags reg m p = setNZ (reg - m) (setFlag .c (decide (m.toNat ≤ reg.toNat)) p) := by
  rw [← ofInt_toNat_sub_toNat]
  rfl

/-- `Compare` after the advance of `PC` and `cycles` writes `P` and nothing else. -/
theorem begun_compare (s : State) (i : Instr) (reg m : Byte) :
    (s.begun i).compare reg m =
      { s.begun i with p := setNZ (reg - m) (setFlag .c (decide (m.toNat ≤ reg.toNat)) s.p) } := by
  rw [← compareFlags_eq]
  rfl

/-- Settles O27: a compare always runs its rule, on an operand that the advance of `PC` and `cycles` left as it was. -/
theorem comparesWriteNZC : Obligations.ComparesWriteNZC := by
  intro i s m after
  have hm : readOperand (s.begun i) (s.resolved i).opnd = m := readOperand_begun s i _
  have hafter (reg : Byte) :
      .next ((s.begun i).compare reg (readOperand (s.begun i) (s.resolved i).opnd)) = after reg := by
    rw [hm, begun_compare]
  exact ⟨fun h => (exec_of_alwaysRuns h rfl s).trans (hafter s.a),
    fun h => (exec_of_alwaysRuns h rfl s).trans (hafter s.x),
    fun h => (exec_of_alwaysRuns h rfl s).trans (hafter s.y)⟩

/-! ### Increments and decrements (R181 to R186) -/

/-- An instruction that nothing stops and whose operand is a byte of memory runs its rule at that address (R84). -/
theorem exec_of_alwaysRuns_mem {i : Instr} {m : Mnemonic} {s : State} {ea : Addr} (hea : (s.resolved i).opnd = .mem ea)
    (hi : i.mnemonic = m) (h : alwaysRuns m = true) : exec i s = .next (ruleOf m (.mem ea) (s.begun i)) :=
  hea ▸ exec_of_alwaysRuns hi h s

/-- Settles O28: INC and DEC always run their rule, which at a `Mem` operand is a read and a byte write there; the four
on X and Y always run theirs, one byte and its base cost further on. -/
theorem incrementsAndDecrements : Obligations.IncrementsAndDecrements := by
  refine ⟨fun i s ea hea => ?memory, fun s => ?register⟩
  case memory =>
    exact ⟨fun h => exec_of_alwaysRuns_mem hea h rfl, fun h => exec_of_alwaysRuns_mem hea h rfl⟩
  case register =>
    refine ⟨?inx, ?iny, ?dex, ?dey⟩
    all_goals exact exec_of_implied rfl rfl s

end Sys2Proof.Proofs
end

section
/-! Logic, bit test and shifts against 43_logic_shift.md: AND, ORA, EOR and BIT in every mode (R201 to R204), and ASL,
LSR, ROL and ROR on A and in memory (R200, R205 to R208). -/

namespace Sys2Proof.Proofs

open Sys2Proof.Machine

/-! ### Logic and the bit test (R201 to R204) -/

/-- Settles O29: each always runs its rule, on an operand that the advance of `PC` and `cycles` left as it was; the rule's
writes of A and of the flags are then the equation's by definition. -/
theorem logicAndBitTest : Obligations.LogicAndBitTest := by
  intro i s b m
  have hm : readOperand b (s.resolved i).opnd = m := readOperand_begun s i _
  refine ⟨fun h => ?and, fun h => ?ora, fun h => ?eor, fun h => ?bit⟩
  all_goals
    rw [exec_of_alwaysRuns h rfl, ← hm]
    rfl

/-! ### Shifts and rotates (R200, R205 to R208) -/

/-- ROR brings the carry in at bit 7, where a left shift by 7 puts it (R200). -/
theorem ror8_eq_or_carry_shift (v : Byte) (c : Bool) :
    ror8 v c = ((v >>> 1) ||| ((if c then 1 else 0 : Byte) <<< 7), v.getLsbD 0) := by
  cases c
  case false => rfl
  case true => rfl

/-- A shift's ending writes the result to the operand, and to `P` the carry, then N and Z; `P` is no operand (R205 to
R208). -/
theorem writeShifted_eq (s : State) (o : Operand) (rc : Byte × Bool) :
    s.writeShifted o rc = { writeOperand s rc.1 o with p := setNZ rc.1 (setFlag .c rc.2 s.p) } := by
  rw [← writeOperand_p s rc.1 o]
  rfl

/-- Settles O30: a shift always runs its rule, on the operand and the carry that the advance of `PC` and `cycles` left as
they were. -/
theorem shiftsAndRotates : Obligations.ShiftsAndRotates := by
  intro i s o m carry after
  have hafter (shift : Byte → Byte × Bool) :
      .next ((s.begun i).writeShifted o (shift (readOperand (s.begun i) o))) = after (shift m).1 (shift m).2 := by
    rw [readOperand_begun, writeShifted_eq, State.begun_p]
  have hror := hafter fun v => ror8 v (s.flag .c)
  rw [ror8_eq_or_carry_shift m] at hror
  exact ⟨fun h => (exec_of_alwaysRuns h rfl s).trans (hafter asl8),
    fun h => (exec_of_alwaysRuns h rfl s).trans (hafter lsr8),
    fun h => (exec_of_alwaysRuns h rfl s).trans (hafter fun v => rol8 v (s.flag .c)),
    fun h => (exec_of_alwaysRuns h rfl s).trans hror⟩

end Sys2Proof.Proofs
end

section
/-! Control against 44_control.md: RTS (R231), NOP with the illegal NOP forms of 45_illegal.md (R234, R274), and CLC, SEC
and CLV (R235, R236, R239). -/

namespace Sys2Proof.Proofs

open Sys2Proof.Machine

/-! ### NOP and its illegal forms (R234, R274) -/

/-- A mapped NOP form is never refused, and its rule changes nothing: what is left is the advance past its bytes and the
charge of its cost (R84). -/
theorem exec_of_nop {i : Instr} (h : i.mnemonic = .nop) (s : State) (hmapped : i.mapped s.policy = true) :
    exec i s = .next (s.begun i) := by
  have hrefused : s.decimalRefused i.mnemonic = false := h ▸ decimalRefused_eq_false s .nop (by decide)
  rw [exec_runs i s hmapped hrefused, h]
  rfl

/-- Settles O36: the legal NOP is the implied form, one byte long and 2 cycles, and its row is mapped under every setting
(R103). -/
theorem nopsDoNothing : Obligations.NopsDoNothing := by
  intro s
  refine ⟨?legal, fun i h hmapped => exec_of_nop h s hmapped⟩
  case legal =>
    rw [exec_of_nop rfl s (mapped_of_legal rfl s.policy), begun_of_implied rfl]
    rfl

/-! ### Pulling a word (R231) -/

/-- Two steps of `SP` are one step of two, at the wrap too. -/
theorem add_one_add_one (sp : Byte) : sp + 1 + 1 = sp + 2 := BitVec.add_assoc sp 1 1

/-- Pulling a word moves `SP` up by two and changes nothing else. -/
theorem pullWord_eq (s : State) : s.pullWord = { s with sp := s.sp + 2 } := by
  rw [← add_one_add_one]
  rfl

/-- The word pulled has its low byte at the first stack address above `SP` and its high byte at the second. -/
theorem pulledWord_eq (s : State) :
    s.pulledWord = wordOfBytes (s.read (stackAddr (s.sp + 2))) (s.read (stackAddr (s.sp + 1))) := by
  rw [← add_one_add_one]
  rfl

/-- RTS's rule: one past the word pulled, `SP` up by two, the rest as it was. -/
theorem rtsRule_eq (o : Operand) (s : State) :
    rtsRule o s =
      { s with
        pc := wordOfBytes (s.read (stackAddr (s.sp + 2))) (s.read (stackAddr (s.sp + 1))) + 1
        sp := s.sp + 2 } := by
  rw [rtsRule, pullWord_eq, pulledWord_eq]
  rfl

/-- Settles O33: RTS always runs its rule, on a stack that the advance of `PC` and `cycles` left as it was. -/
theorem rtsReturns : Obligations.RtsReturns := by
  intro s
  have hruns := exec_of_implied (i := .rts) rfl rfl s
  exact hruns.trans (congrArg Host.Outcome.next (rtsRule_eq .none _))

/-! ### Flag instructions (R235, R236, R239) -/

/-- Settles O37: each always runs its rule, which writes one flag; the masks of C and V, complemented to clear, are the
equation's constants by definition (R27, R28). -/
theorem carryAndOverflowInstructions : Obligations.CarryAndOverflowInstructions := by
  intro s b
  refine ⟨?clc, ?sec, ?clv⟩
  all_goals exact exec_of_implied rfl rfl s

end Sys2Proof.Proofs
end

section
/-! The stable illegal opcodes against 45_illegal.md: SLO, RLA, SRE and DCP (R261 to R263, R267), SAX and LAX (R265, R266),
and the immediate forms ANC, ALR and SBX (R269, R270, R272). -/

namespace Sys2Proof.Proofs

open Sys2Proof.Machine

/-! ### The mnemonics that run their rule under `P_ILLEGAL = Stable` (R104, R172) -/

/-- Every row of the mnemonic is a stable illegal opcode (R104), and `Refused(d, P)` does not name it (R172): under
`P_ILLEGAL = Stable` nothing can come before its rule. -/
def runsIfStable : Mnemonic → Bool
  | .slo | .rla | .sre | .dcp | .sax | .lax | .anc | .alr | .sbx => true
  | _ => false

theorem set_eq_illegal_of_runsIfStable {i : Instr} (h : runsIfStable i.mnemonic = true) :
    i.descriptor.set = .illegal := by
  have hset := set_of_mnemonic i
  revert h hset
  cases i.mnemonic <;> first | exact fun _ hset => hset | exact fun h => Bool.noConfusion h

theorem decimalRefused_of_runsIfStable {m : Mnemonic} (h : runsIfStable m = true) (s : State) :
    s.decimalRefused m = false := by
  apply decimalRefused_eq_false
  refine ⟨?_, ?_, ?_, ?_, ?_⟩ <;> rintro rfl <;> exact Bool.noConfusion h

/-- Such an instruction runs its mnemonic's rule in every state whose setting maps it (R84). -/
theorem exec_of_runsIfStable {i : Instr} {m : Mnemonic} {s : State} (hstable : s.policy.illegal = .stable)
    (hi : i.mnemonic = m) (h : runsIfStable m = true) :
    exec i s = .next (ruleOf m (s.resolved i).opnd (s.begun i)) := by
  subst hi
  have hset : i.descriptor.set ≠ .unmapped := by
    rw [set_eq_illegal_of_runsIfStable h]
    exact OpSet.noConfusion
  exact exec_runs i s (mapped_of_stable hset hstable) (decimalRefused_of_runsIfStable h s)

/-- Where its operand is a byte of memory, the rule runs at that address. -/
theorem exec_of_runsIfStable_mem {i : Instr} {m : Mnemonic} {s : State} {ea : Addr}
    (hstable : s.policy.illegal = .stable) (hea : (s.resolved i).opnd = .mem ea) (hi : i.mnemonic = m)
    (h : runsIfStable m = true) : exec i s = .next (ruleOf m (.mem ea) (s.begun i)) :=
  hea ▸ exec_of_runsIfStable hstable hi h

/-! ### Read-modify-write with A (R261 to R263, R267) -/

/-- `Compare` after a byte write takes its flags from the `P` before it and writes `P` alone. -/
theorem write_compare (s : State) (ea : Addr) (v reg m : Byte) :
    (s.write ea v).compare reg m =
      { s.write ea v with p := setNZ (reg - m) (setFlag .c (decide (m.toNat ≤ reg.toNat)) s.p) } := by
  rw [← compareFlags_eq]
  rfl

/-- Settles O39: each runs its rule at the `Mem` operand, and the advance of `PC` and `cycles` left the byte, A and the
flags as they were. SLO, RLA and SRE then write the equation's fields by definition; DCP ends in a compare. -/
theorem illegalReadModifyWrite : Obligations.IllegalReadModifyWrite := by
  intro i s ea hstable hea m shl rol shr dec after
  have hruns {mn : Mnemonic} (hi : i.mnemonic = mn) (h : runsIfStable mn = true) :
      exec i s = .next (ruleOf mn (.mem ea) (s.begun i)) := exec_of_runsIfStable_mem hstable hea hi h
  have hcompare : dcpRule (.mem ea) (s.begun i) =
      { (s.begun i).write ea dec with
        p := setNZ (s.a - dec) (setFlag .c (decide (dec.toNat ≤ s.a.toNat)) s.p) } :=
    write_compare (s.begun i) ea dec s.a dec
  exact ⟨fun h => hruns h rfl, fun h => hruns h rfl, fun h => hruns h rfl,
    fun h => (hruns h rfl).trans (congrArg Host.Outcome.next hcompare)⟩

/-! ### SAX and LAX, and the immediate forms (R265, R266, R269, R270, R272) -/

/-- An immediate instruction is two bytes long and crosses no page, so it is charged its row's base cost alone (R89,
R100). -/
theorem begun_of_immediate {i : Instr} {v : Byte} (h : i.mode = .immediate v) (s : State) :
    s.begun i = { s with pc := s.pc + 2, cycles := s.cycles + i.descriptor.base } := by
  have hlen : i.length = 2 := congrArg AddrMode.length h
  have hcost : s.cost i = i.descriptor.base := by simp [State.cost, State.resolved, h, resolve]
  rw [State.begun, State.pastInstr, hlen, hcost]
  rfl

/-- An immediate form that `P_ILLEGAL = Stable` lets run has its byte as the operand, `PC` being past its two bytes. -/
theorem exec_of_runsIfStable_imm {i : Instr} {v : Byte} {s : State} (hstable : s.policy.illegal = .stable)
    (h : runsIfStable i.mnemonic = true) (hmode : i.mode = .immediate v) :
    exec i s = .next
      (ruleOf i.mnemonic (.imm v) { s with pc := s.pc + 2, cycles := s.cycles + i.descriptor.base }) := by
  have hopnd : (s.resolved i).opnd = .imm v := by rw [State.resolved, hmode, resolve]
  rw [exec_of_runsIfStable hstable rfl h, hopnd, begun_of_immediate hmode]

/-- Settles O41: SAX and LAX run their rules at the `Mem` operand, the immediate forms on their byte, two bytes and their
base cost further on; what the rules write there is the equation's by definition. -/
theorem illegalLoadsStoresAndImmediates : Obligations.IllegalLoadsStoresAndImmediates := by
  refine ⟨fun i s ea hstable hea => ?memory, fun s v hstable => ?immediate⟩
  case memory =>
    exact ⟨fun h => exec_of_runsIfStable_mem hstable hea h rfl, fun h => exec_of_runsIfStable_mem hstable hea h rfl⟩
  case immediate =>
    refine ⟨?anc0B, ?anc2B, ?alr, ?sbx⟩
    all_goals exact exec_of_runsIfStable_imm hstable rfl rfl

end Sys2Proof.Proofs
end

section
/-! The timing summary by class and mode of 70_reset_and_hazards.md (R343) against the per-opcode table of 30_encoding.md
(R102), and the cycles of a branch (R220). -/

namespace Sys2Proof.Proofs

open Sys2Proof.Machine

/-! ### The summary as a table (R343) -/

/-- What R343 has an implied instruction cost: 2, but for those that use the stack, and BRK. -/
def impliedCost : Mnemonic → Nat
  | .pha | .php => 3
  | .pla | .plp => 4
  | .rts | .rti => 6
  | .brk => 7
  | _ => 2

/-! Each of the following gives, for a mode, the base cost and whether a page crossing is paid for; `none` where the class
has no row of the mode. -/

/-- R343's read class. -/
def readCost : AddrMode → Option (Nat × Bool)
  | .immediate _ => some (2, false)
  | .zeroPage _ => some (3, false)
  | .zeroPageX _ | .zeroPageY _ | .absolute _ => some (4, false)
  | .absoluteX _ | .absoluteY _ => some (4, true)
  | .indirectX _ => some (6, false)
  | .indirectY _ => some (5, true)
  | _ => none

/-- R343's stores. -/
def writeCost : AddrMode → Option (Nat × Bool)
  | .zeroPage _ => some (3, false)
  | .zeroPageX _ | .zeroPageY _ | .absolute _ => some (4, false)
  | .absoluteX _ | .absoluteY _ => some (5, false)
  | .indirectX _ | .indirectY _ => some (6, false)
  | _ => none

/-- R343's read-modify-write class; the last three modes are of illegal rows only. -/
def rmwCost (set : OpSet) : AddrMode → Option (Nat × Bool)
  | .accumulator => some (2, false)
  | .zeroPage _ => some (5, false)
  | .zeroPageX _ | .absolute _ => some (6, false)
  | .absoluteX _ => some (7, false)
  | .absoluteY _ => if set = .illegal then some (7, false) else none
  | .indirectX _ | .indirectY _ => if set = .illegal then some (8, false) else none
  | _ => none

/-- R343's implied instructions and jumps. -/
def otherCost (m : Mnemonic) : AddrMode → Option (Nat × Bool)
  | .implied => some (impliedCost m, false)
  | .absolute _ => if m = .jsr then some (6, false) else if m = .jmp then some (3, false) else none
  | .indirect _ => if m = .jmp then some (5, false) else none
  | _ => none

/-- R343 for a row of any class. It gives an unmapped byte no cost; the 0 is what R86 adds for it. -/
def summaryCost (m : Mnemonic) (set : OpSet) (mode : AddrMode) : OpClass → Option (Nat × Bool)
  | .read => readCost mode
  | .write => writeCost mode
  | .rmw => rmwCost set mode
  | .branch => some (2, false)
  | .other => if set = .unmapped then some (0, false) else otherCost m mode

/-- The per-opcode table agrees with the summary: row by row of R102's table. -/
theorem cost_eq_summaryCost (i : Instr) :
    summaryCost i.descriptor.mnemonic i.descriptor.set i.descriptor.mode i.descriptor.cls =
      some (i.descriptor.base, i.descriptor.penalty) := by
  cases i <;> rfl

/-! ### The rows of the jumps and the branches -/

theorem eq_jsrAbs_of_mnemonic {i : Instr} (h : i.mnemonic = .jsr) : ∃ w, i = .jsrAbs w := by
  cases i with
  | jsrAbs w => exact ⟨w, rfl⟩
  | _ => exact Mnemonic.noConfusion h

theorem eq_jmpAbs_or_jmpInd_of_mnemonic {i : Instr} (h : i.mnemonic = .jmp) :
    (∃ w, i = .jmpAbs w) ∨ ∃ w, i = .jmpInd w := by
  cases i with
  | jmpAbs w => exact .inl ⟨w, rfl⟩
  | jmpInd w => exact .inr ⟨w, rfl⟩
  | _ => exact Mnemonic.noConfusion h

/-- A row of the branch class always runs its rule, which is R220's with the mnemonic's condition. -/
theorem branch_row {i : Instr} (h : i.descriptor.cls = .branch) :
    alwaysRuns i.mnemonic = true ∧ ∃ c, ruleOf i.mnemonic = branch c := by
  cases i with
  | bpl | bmi | bvc | bvs | bcc | bcs | bne | beq => exact ⟨rfl, _, rfl⟩
  | _ => exact OpClass.noConfusion h

/-- A branch is charged 2 cycles before its rule runs (R86, R343). -/
theorem begun_cycles_of_branch {i : Instr} (h : i.descriptor.cls = .branch) (s : State) :
    (s.begun i).cycles = s.cycles + 2 := by
  have hrow : some (2, false) = some (i.descriptor.base, i.descriptor.penalty) := by
    rw [← cost_eq_summaryCost, h]
    rfl
  obtain ⟨hbase, hpenalty⟩ := Prod.mk.inj (Option.some.inj hrow)
  simp [State.cost, ← hbase, ← hpenalty]

/-- A branch costs 2 cycles where it is not taken, and 1 or 2 more where it is (R220, R343). -/
theorem cycles_of_branch {i : Instr} {s t : State} (hcls : i.descriptor.cls = .branch) (ht : exec i s = .next t) :
    t.cycles = s.cycles + 2 ∨ t.cycles = s.cycles + 3 ∨ t.cycles = s.cycles + 4 := by
  obtain ⟨hruns, c, hrule⟩ := branch_row hcls
  have hbegun : (s.begun i).cycles = s.cycles + 2 := begun_cycles_of_branch hcls s
  rw [exec_of_alwaysRuns rfl hruns, hrule] at ht
  obtain rfl := Host.Outcome.next.inj ht
  rcases branch_cases (s.begun i) c (s.resolved i).opnd with hstay | ⟨target, n, -, hn, hgo⟩
  · exact .inl (by rw [hstay, hbegun])
  · have hcycles : (branch c (s.resolved i).opnd (s.begun i)).cycles = s.cycles + 2 + n := by
      rw [hgo, ← hbegun]
      rfl
    omega

/-- Settles O9: a row of a class costs what the summary has for the class, looked up at each mode; the jumps are three rows
of the table. -/
theorem timingSummaryByMode : Obligations.TimingSummaryByMode := by
  intro i d
  have hrow : summaryCost d.mnemonic d.set d.mode d.cls = some (d.base, d.penalty) := cost_eq_summaryCost i
  refine ⟨fun hcls => ?read, fun hcls => ?write, fun hcls => ?rmw, fun hcls hmode hset => ?implied, fun hm => ?jsr,
    fun w hm hmode => ?jmpAbs, fun w hm hmode => ?jmpInd, fun s t => cycles_of_branch⟩
  case read =>
    clear_value d
    have hread : readCost d.mode = some (d.base, d.penalty) := by rwa [hcls] at hrow
    cases hmode : d.mode <;> simp_all [readCost]
  case write =>
    clear_value d
    have hwrite : writeCost d.mode = some (d.base, d.penalty) := by rwa [hcls] at hrow
    cases hmode : d.mode <;> simp_all [writeCost]
  case rmw =>
    clear_value d
    have hrmw : rmwCost d.set d.mode = some (d.base, d.penalty) := by rwa [hcls] at hrow
    cases hmode : d.mode <;> simp_all [rmwCost]
  case implied =>
    rw [hcls, hmode, summaryCost, if_neg hset] at hrow
    exact (congrArg Prod.fst (Option.some.inj hrow)).symm
  case jsr =>
    obtain ⟨w, rfl⟩ := eq_jsrAbs_of_mnemonic hm
    rfl
  case jmpAbs =>
    obtain ⟨w, rfl⟩ | ⟨w, rfl⟩ := eq_jmpAbs_or_jmpInd_of_mnemonic hm
    · rfl
    · exact AddrMode.noConfusion hmode
  case jmpInd =>
    obtain ⟨w, rfl⟩ | ⟨w, rfl⟩ := eq_jmpAbs_or_jmpInd_of_mnemonic hm
    · exact AddrMode.noConfusion hmode
    · rfl

end Sys2Proof.Proofs
end

section
/-! Decoding and encoding against 30_encoding.md: the decoder's grid and the per-opcode table agree on every row (R80
to R82, R102 to R107), and a step runs what the bytes at `PC` decode to (R84). -/

namespace Sys2Proof.Proofs

open Sys2Proof.Machine

/-! ### The rows of the grid (R102) -/

/-- What the opcode byte alone fixes of a row: all that a step asks of it before it has an operand. -/
def fixedByOpcode (i : Instr) : Byte × Mnemonic × OpSet × Nat := (i.opcode, i.mnemonic, i.descriptor.set, i.length)

/-- The bytes after the opcode choose the operand only (R81): row by row of the grid. -/
theorem fixedByOpcode_decodeBytes (op b c : Byte) :
    fixedByOpcode (decodeBytes op b c) = fixedByOpcode (decodeBytes op 0 0) := by
  unfold decodeBytes
  dsimp only
  split
  all_goals
    dsimp only [decodeRow0, decodeRow1, decodeRow2, decodeRow3, decodeRow4, decodeRow5, decodeRow6, decodeRow7,
      decodeRow8, decodeRow9, decodeRowA, decodeRowB, decodeRowC, decodeRowD, decodeRowE, decodeRowF]
    split <;> rfl

theorem row_decodeBytes (op b c : Byte) :
    (decodeBytes op b c).opcode = (decodeBytes op 0 0).opcode ∧
      (decodeBytes op b c).mnemonic = (decodeBytes op 0 0).mnemonic ∧
      (decodeBytes op b c).descriptor.set = (decodeBytes op 0 0).descriptor.set ∧
      (decodeBytes op b c).length = (decodeBytes op 0 0).length := by
  simpa [fixedByOpcode] using fixedByOpcode_decodeBytes op b c

/-- The grid's place of a byte holds the row the table has for it: place by place. -/
theorem opcode_grid :
    ∀ row < 16, ∀ col < 16,
      (decodeBytes (BitVec.ofNat 8 (16 * row + col)) 0 0).opcode = BitVec.ofNat 8 (16 * row + col) := by
  decide

/-- Every opcode byte decodes to a row of that byte (R107). -/
theorem opcode_decodeBytes (op b c : Byte) : (decodeBytes op b c).opcode = op := by
  obtain ⟨hrow, -⟩ := row_decodeBytes op b c
  have hplace := opcode_grid (op.toNat / 16) (by omega) (op.toNat % 16) (by omega)
  rw [Nat.div_add_mod, BitVec.ofNat_toNat, BitVec.setWidth_eq] at hplace
  exact hrow.trans hplace

/-- Settles O3: the row of a byte is that byte's; the three sets are counted, and the last listed, over the 256 bytes.
-/
theorem opcodeByteSets : Obligations.OpcodeByteSets := by
  unfold Obligations.OpcodeByteSets
  dsimp only
  refine ⟨opcode_decodeBytes, ?legal, ?illegal, ?unmapped⟩
  case legal => rfl
  case illegal => rfl
  case unmapped => decide +kernel

/-! ### Encoding, then decoding (R80 to R82) -/

/-- The mode with its operand read from the two bytes after the opcode (R82). -/
def withOperandBytes (b c : Byte) : AddrMode → AddrMode
  | .implied => .implied
  | .accumulator => .accumulator
  | .immediate _ => .immediate b
  | .zeroPage _ => .zeroPage b
  | .zeroPageX _ => .zeroPageX b
  | .zeroPageY _ => .zeroPageY b
  | .absolute _ => .absolute (wordOfBytes c b)
  | .absoluteX _ => .absoluteX (wordOfBytes c b)
  | .absoluteY _ => .absoluteY (wordOfBytes c b)
  | .indirect _ => .indirect (wordOfBytes c b)
  | .indirectX _ => .indirectX b
  | .indirectY _ => .indirectY b
  | .relative _ => .relative b

/-- A mode's own operand bytes, whatever follows them, give the mode back. -/
theorem withOperandBytes_operandBytes (m : AddrMode) (rest : List Byte) :
    withOperandBytes ((m.operandBytes ++ rest).getD 0 0) ((m.operandBytes ++ rest).getD 1 0) m = m := by
  cases m <;> simp [withOperandBytes, AddrMode.operandBytes]

/-- An instruction stands in the grid at its opcode: row by row of the table, the operand being the two bytes'. -/
theorem decodeBytes_opcode {i : Instr} {b c : Byte} (h : withOperandBytes b c i.mode = i.mode) :
    decodeBytes i.opcode b c = i := by
  cases i with
  | jam op => cases op <;> rfl
  | sha op => cases op <;> rfl
  | _ =>
    cases h
    dsimp only [Instr.opcode, Instr.descriptor]
    rfl

/-- Everything decoding can do from an opcode byte on: it answers an instruction exactly when that is the one of the
byte and the two after it, and its operand bytes are all there; the rest is what follows them (R81). -/
theorem decode_cons_eq_ok_iff {op : Byte} {bytes rest : List Byte} {i : Instr} :
    decode (op :: bytes) = .ok (i, rest) ↔
      decodeBytes op (bytes.getD 0 0) (bytes.getD 1 0) = i ∧ i.length - 1 ≤ bytes.length ∧
        bytes.drop (i.length - 1) = rest := by
  obtain ⟨-, -, -, hlength⟩ := row_decodeBytes op (bytes.getD 0 0) (bytes.getD 1 0)
  rw [decode, ← hlength]
  split
  case isTrue hshort =>
    refine ⟨nofun, ?_⟩
    rintro ⟨rfl, hlen, -⟩
    omega
  case isFalse hlong =>
    rw [Except.ok.injEq, Prod.mk.injEq]
    constructor
    · rintro ⟨rfl, rfl⟩
      exact ⟨rfl, by omega, rfl⟩
    · rintro ⟨rfl, -, rfl⟩
      exact ⟨rfl, rfl⟩

theorem length_operandBytes (i : Instr) : i.mode.operandBytes.length = i.length - 1 := by
  obtain ⟨hlen, -⟩ := Laws.AddrMode.operandBytes_length i.mode
  rw [Instr.length]
  omega

/-- Settles O1: the operand bytes behind the opcode are the instruction's own, so the grid's place is its row and what
follows them is the rest. -/
theorem decodeEncodeRoundTrip : Obligations.DecodeEncodeRoundTrip := by
  intro i rest
  have hlen := length_operandBytes i
  have hrow := decodeBytes_opcode (withOperandBytes_operandBytes i.mode rest)
  exact decode_cons_eq_ok_iff.mpr ⟨hrow, by simp [← hlen], List.drop_left' hlen⟩

/-! ### Decoding, then encoding (R81, R107) -/

/-- Bytes that begin the first two of a list that is long enough begin the list. -/
theorem eq_take_of_prefix_getD {l bytes : List Byte} (h : l <+: [bytes.getD 0 0, bytes.getD 1 0])
    (hlen : l.length ≤ bytes.length) : l = bytes.take l.length := by
  have hshort : l.length ≤ 2 := h.length_le
  rw [List.prefix_iff_eq_take] at h
  rw [h, List.length_take_of_le hshort]
  match bytes, l.length, hlen, hshort with
  | _, 0, _, _ => rfl
  | x :: _, 1, _, _ => rfl
  | x :: y :: _, 2, _, _ => rfl

/-- Settles O2: the opcode is the row's, and the operand bytes the row holds are the first of those that follow it. -/
theorem decodedBytesAreTheEncoding : Obligations.DecodedBytesAreTheEncoding := by
  intro bytes rest i h
  match bytes with
  | [] => cases h
  | op :: bytes =>
    obtain ⟨hi, hlen, rfl⟩ := decode_cons_eq_ok_iff.mp h
    have hopcode : i.opcode = op := hi ▸ opcode_decodeBytes op _ _
    have hprefix : i.mode.operandBytes <+: [bytes.getD 0 0, bytes.getD 1 0] := hi ▸ operandBytes_decodeBytes op _ _
    rw [← length_operandBytes] at hlen ⊢
    have hoperand := eq_take_of_prefix_getD hprefix hlen
    calc op :: bytes
        = op :: (bytes.take i.mode.operandBytes.length ++ bytes.drop i.mode.operandBytes.length) := by
          rw [List.take_append_drop]
      _ = encode i ++ bytes.drop i.mode.operandBytes.length := by
          rw [← hoperand, encode, hopcode, List.cons_append]

/-! ### The step (R84) -/

/-- Settles O4: each word is decoded. -/
theorem wordsDecodeAsTheRulesEncode : Obligations.WordsDecodeAsTheRulesEncode := by
  refine ⟨rfl, rfl, rfl, rfl, rfl, rfl, rfl, rfl, rfl, rfl, rfl, rfl, rfl, rfl⟩

theorem codeByte_zero (s : State) : s.codeByte 0 = s.read s.pc := congrArg s.read (BitVec.add_zero s.pc)

/-- The opcode fetched is the byte at `PC`. -/
theorem opcode_fetched (s : State) : s.fetched.opcode = s.read s.pc :=
  (opcode_decodeBytes _ _ _).trans (codeByte_zero s)

/-- A running engine's step is the `exec` of what it fetches (R84). -/
theorem step_of_running {s : State} (h : s.status = .running) : step s = exec s.fetched s := by
  rw [step, h]

/-- Settles O6: the three bytes decoded are the three fetched. -/
theorem stepRunsTheInstructionAtPc : Obligations.StepRunsTheInstructionAtPc := by
  intro s i rest hrunning hdecode
  obtain ⟨rfl, -, -⟩ := decode_cons_eq_ok_iff.mp hdecode
  rw [step_of_running hrunning, State.fetched, codeByte_zero]
  rfl

/-- Settles O7: every other status is one of the arm that answers `notRunning`. -/
theorem noStepUnlessRunning : Obligations.NoStepUnlessRunning := by
  intro s h
  unfold step
  cases hs : s.status with
  | running => exact absurd hs h
  | idle | halted | faulted | refused => rfl

end Sys2Proof.Proofs
end

section
/-! What the rule of each mnemonic can change, field by field: the flags (10_state.md R27 to R34), the status and the
parameters, memory (20_memory.md R52, R60) and the registers (R21 to R25). Every statement about all instructions is
drawn from these by `exec_cases`. -/

namespace Sys2Proof.Proofs

open Sys2Proof.Machine

/-! ### The bits of `P` the flag operations leave alone -/

theorem getLsbD_setFlag_of_ne {f : Flag} {k : Nat} (h : k ≠ f.bit) (v : Bool) (p : Byte) :
    (setFlag f v p).getLsbD k = p.getLsbD k := by
  rw [getLsbD_setFlag, if_neg h]

/-- `SetNZ` writes N and Z (R29). -/
theorem getLsbD_setNZ_of_ne {k : Nat} (hn : k ≠ Flag.n.bit) (hz : k ≠ Flag.z.bit) (v p : Byte) :
    (setNZ v p).getLsbD k = p.getLsbD k := by
  rw [setNZ, getLsbD_setFlag_of_ne hz, getLsbD_setFlag_of_ne hn]

/-- A compare, a shift and a rotate write C and then N and Z (R177, R200). -/
theorem getLsbD_setNZ_setFlag_of_ne {k : Nat} (hn : k ≠ Flag.n.bit) (hz : k ≠ Flag.z.bit) (hc : k ≠ Flag.c.bit)
    (v p : Byte) (out : Bool) : (setNZ v (setFlag .c out p)).getLsbD k = p.getLsbD k := by
  rw [getLsbD_setNZ_of_ne hn hz, getLsbD_setFlag_of_ne hc]

/-- An addition and a subtraction write N, V, Z and C (R175, R176). -/
theorem getLsbD_setFlags_of_ne {k : Nat} (hn : k ≠ Flag.n.bit) (hv : k ≠ Flag.v.bit) (hz : k ≠ Flag.z.bit)
    (hc : k ≠ Flag.c.bit) (r : AluResult) (p : Byte) : (r.setFlags p).getLsbD k = p.getLsbD k := by
  rw [AluResult.setFlags, getLsbD_setFlag_of_ne hz, getLsbD_setFlag_of_ne hn, getLsbD_setFlag_of_ne hv,
    getLsbD_setFlag_of_ne hc]

/-- The kept bits are 5 and 4 (R30, R31). -/
theorem getLsbD_keptBits (k : Nat) : keptBits.getLsbD k = decide (k = 5 ∨ k = 4) := by
  by_cases hk : k < 8
  case pos =>
    revert k
    decide
  case neg =>
    rw [BitVec.getLsbD_of_ge keptBits k (by omega), decide_eq_false (by omega)]

/-- The bits of the byte PLP and RTI leave: the kept ones are kept, the others pulled (R159, R232). -/
theorem getLsbD_pulledStatus (q p : Byte) (k : Nat) :
    (pulledStatus q p).getLsbD k = if k = 5 ∨ k = 4 then p.getLsbD k else q.getLsbD k := by
  rw [pulledStatus, BitVec.getLsbD_or, BitVec.getLsbD_and, BitVec.getLsbD_and, BitVec.getLsbD_not, getLsbD_keptBits]
  by_cases hkept : k = 5 ∨ k = 4
  case pos => simp [hkept]
  case neg =>
    by_cases hk : k < 8
    · simp [hkept, hk]
    · simp [hkept, BitVec.getLsbD_of_ge q k (by omega)]

theorem getLsbD_pulledStatus_of_ne {k : Nat} (h : ∀ f ∈ [Flag.n, .v, .d, .i, .z, .c], k ≠ f.bit) (q p : Byte) :
    (pulledStatus q p).getLsbD k = p.getLsbD k := by
  rw [getLsbD_pulledStatus]
  by_cases hkept : k = 5 ∨ k = 4
  case pos => exact if_pos hkept
  case neg =>
    have hge : 8 ≤ k := by
      simp only [List.forall_mem_cons, Flag.bit] at h
      omega
    rw [if_neg hkept, BitVec.getLsbD_of_ge q k hge, BitVec.getLsbD_of_ge p k hge]

/-- Settles O15: N and Z by the laws of `SetNZ`, every other bit by its two setters. -/
theorem setNZWritesNAndZ : Obligations.SetNZWritesNAndZ := by
  intro v p
  exact ⟨getFlag_setNZ_n v p, getFlag_setNZ_z v p, fun _ hn hz => getLsbD_setNZ_of_ne hn hz v p⟩

/-! ### The flags a rule writes (R34) -/

/-- The flags the rule of a mnemonic writes. -/
def flagsWritten : Mnemonic → List Flag
  | .lda | .ldx | .ldy | .tax | .tay | .txa | .tya | .tsx | .pla | .inc | .inx | .iny | .dec | .dex | .dey | .and | .ora
  | .eor | .lax => [.n, .z]
  | .cmp | .cpx | .cpy | .asl | .lsr | .rol | .ror | .slo | .rla | .sre | .dcp | .anc | .alr | .sbx => [.n, .z, .c]
  | .adc | .sbc | .rra | .isc | .arr => [.n, .v, .z, .c]
  | .bit => [.n, .v, .z]
  | .plp | .rti => [.n, .v, .d, .i, .z, .c]
  | .brk => [.b]
  | .clc | .sec => [.c]
  | .cli | .sei => [.i]
  | .cld | .sed => [.d]
  | .clv => [.v]
  | _ => []

section

variable (o : Operand) (s : State)

/-- A rule leaves every bit of `P` alone that is not of a flag it writes: mnemonic by mnemonic, in groups that end in
the same flag operation. -/
theorem getLsbD_p_ruleOf {m : Mnemonic} {k : Nat} (h : ∀ f ∈ flagsWritten m, k ≠ f.bit) :
    (ruleOf m o s).p.getLsbD k = s.p.getLsbD k := by
  cases m with
  | lda | ldx | ldy | tax | tay | txa | tya | tsx | pla | inc | inx | iny | dec | dex | dey | and | ora | eor | lax =>
    have hn := h .n (by decide)
    have hz := h .z (by decide)
    cases o <;> exact getLsbD_setNZ_of_ne hn hz _ _
  | cmp | cpx | cpy | asl | lsr | rol | ror | slo | rla | sre | dcp | alr | sbx =>
    have hn := h .n (by decide)
    have hz := h .z (by decide)
    have hc := h .c (by decide)
    cases o <;> exact getLsbD_setNZ_setFlag_of_ne hn hz hc _ _ _
  | anc =>
    exact (getLsbD_setFlag_of_ne (h .c (by decide)) _ _).trans
      (getLsbD_setNZ_of_ne (h .n (by decide)) (h .z (by decide)) _ _)
  | adc | sbc | isc =>
    have hn := h .n (by decide)
    have hv := h .v (by decide)
    have hz := h .z (by decide)
    have hc := h .c (by decide)
    cases o <;> exact getLsbD_setFlags_of_ne hn hv hz hc _ _
  | rra =>
    have hc := h .c (by decide)
    have hcarry := getLsbD_setFlag_of_ne hc (ror8 (readOperand s o) (s.flag .c)).2 s.p
    cases o <;>
      exact (getLsbD_setFlags_of_ne (h .n (by decide)) (h .v (by decide)) (h .z (by decide)) hc _ _).trans hcarry
  | arr =>
    exact (getLsbD_setFlag_of_ne (h .v (by decide)) _ _).trans
      (((getLsbD_setFlag_of_ne (h .c (by decide)) _ _)).trans
        (getLsbD_setNZ_of_ne (h .n (by decide)) (h .z (by decide)) _ _))
  | bit =>
    have hn := h .n (by decide)
    have hv := h .v (by decide)
    have hz := h .z (by decide)
    exact (getLsbD_setFlag_of_ne hv _ _).trans ((getLsbD_setFlag_of_ne hn _ _).trans (getLsbD_setFlag_of_ne hz _ _))
  | plp | rti => exact getLsbD_pulledStatus_of_ne h _ _
  | brk => exact getLsbD_setFlag_of_ne (h .b (by decide)) _ _
  | clc | sec => exact getLsbD_setFlag_of_ne (h .c (by decide)) _ _
  | cli | sei => exact getLsbD_setFlag_of_ne (h .i (by decide)) _ _
  | cld | sed => exact getLsbD_setFlag_of_ne (h .d (by decide)) _ _
  | clv => exact getLsbD_setFlag_of_ne (h .v (by decide)) _ _
  | bpl | bmi | bvc | bvs | bcc | bcs | bne | beq =>
    exact congrArg (·.getLsbD k) (branch_p s _ o)
  | _ => cases o <;> rfl

/-- A rule leaves alone the flags it does not write. -/
theorem flag_ruleOf {m : Mnemonic} {f : Flag} (h : f ∉ flagsWritten m) : (ruleOf m o s).flag f = s.flag f := by
  have hbit : ∀ g ∈ flagsWritten m, f.bit ≠ g.bit := fun g hg hfg => h (Flag.bit_inj hfg ▸ hg)
  rw [State.flag, State.flag, getFlag_eq_getLsbD, getFlag_eq_getLsbD, getLsbD_p_ruleOf o s hbit]

/-! ### The status and the parameters -/

/-- BRK's rule alone ends the run (R303). -/
theorem status_ruleOf {m : Mnemonic} (h : m ≠ .brk) : (ruleOf m o s).status = s.status := by
  cases m with
  | brk => exact absurd rfl h
  | bpl | bmi | bvc | bvs | bcc | bcs | bne | beq => exact branch_status s _ o
  | _ => cases o <;> rfl

/-- No rule changes a parameter (R39). -/
theorem policy_ruleOf (m : Mnemonic) : (ruleOf m o s).policy = s.policy := by
  cases m with
  | bpl | bmi | bvc | bvs | bcc | bcs | bne | beq => exact branch_policy s _ o
  | _ => cases o <;> rfl

/-! ### Memory (R52, R60, R101, R230) -/

/-- Where a rule stores. -/
inductive StoreTarget where
  | nowhere | operand | stackByte | stackWord
  deriving DecidableEq

/-- Where the rule of a mnemonic stores: a store and a read-modify-write to its operand, PHA and PHP a byte and JSR a
word to the stack. -/
def storeTarget : Mnemonic → StoreTarget
  | .sta | .stx | .sty | .sax | .asl | .lsr | .rol | .ror | .inc | .dec | .slo | .rla | .sre | .rra | .dcp
  | .isc => .operand
  | .pha | .php => .stackByte
  | .jsr => .stackWord
  | _ => .nowhere

/-- The memory a rule that stores to the given target can leave. -/
def StoresTo (t : State) : StoreTarget → Prop
  | .nowhere => t.mem = s.mem
  | .operand => ∃ v, t.mem = (writeOperand s v o).mem
  | .stackByte => ∃ v, t.mem = (s.push v).mem
  | .stackWord => t.mem = s.mem ∨ ∃ w, t.mem = (s.pushWord w).mem

/-- A rule changes memory at its target only. -/
theorem storesTo_ruleOf (m : Mnemonic) : StoresTo o s (ruleOf m o s) (storeTarget m) := by
  cases m with
  | sta | stx | sty | sax => exact ⟨_, rfl⟩
  | asl | lsr | rol | ror | inc | dec | slo | rla | sre | rra | dcp | isc => exact ⟨_, rfl⟩
  | pha | php => exact ⟨_, rfl⟩
  | jsr =>
    cases o with
    | mem ea => exact .inr ⟨_, rfl⟩
    | _ => exact .inl rfl
  | bpl | bmi | bvc | bvs | bcc | bcs | bne | beq => exact branch_mem s _ o
  | _ => cases o <;> rfl

theorem wf_of_storesTo {t : State} {target : StoreTarget} (h : Memory.wf s.mem = true) (ht : StoresTo o s t target) :
    Memory.wf t.mem = true := by
  cases target with
  | nowhere => exact ht ▸ h
  | operand =>
    obtain ⟨v, hv⟩ := ht
    exact hv ▸ writeOperand_wf s v o h
  | stackByte =>
    obtain ⟨v, hv⟩ := ht
    exact hv ▸ Memory.wf_write h _ v
  | stackWord =>
    obtain hmem | ⟨w, hw⟩ := ht
    · exact hmem ▸ h
    · exact hw ▸ Memory.wf_write (Memory.wf_write h _ _) _ _

/-- A rule keeps the canonical form of memory. -/
theorem wf_mem_ruleOf (m : Mnemonic) (h : Memory.wf s.mem = true) : Memory.wf (ruleOf m o s).mem = true :=
  wf_of_storesTo o s h (storesTo_ruleOf o s m)

/-- The addresses a rule with the given target stores at. -/
def StoresAt : StoreTarget → Addr → Prop
  | .nowhere, _ => False
  | .operand, a => o = .mem a
  | .stackByte, a => a = stackAddr s.sp
  | .stackWord, a => a = stackAddr s.sp ∨ a = stackAddr (s.sp - 1)

/-- Every other byte of memory is as it was. -/
theorem read_of_storesTo {t : State} {target : StoreTarget} {a : Addr} (ht : StoresTo o s t target)
    (ha : ¬ StoresAt o s target a) : t.read a = s.read a := by
  cases target with
  | nowhere => exact State.read_of_mem s t a ht
  | operand =>
    obtain ⟨v, hv⟩ := ht
    rw [State.read_of_mem (writeOperand s v o) t a hv]
    cases o with
    | mem ea => exact State.read_write_of_ne s (fun h => ha (congrArg Operand.mem h.symm)) v
    | _ => rfl
  | stackByte =>
    obtain ⟨v, hv⟩ := ht
    rw [State.read_of_mem (s.push v) t a hv, read_push_of_ne s v ha]
  | stackWord =>
    obtain hmem | ⟨w, hw⟩ := ht
    · exact State.read_of_mem s t a hmem
    · obtain ⟨hfirst, hsecond⟩ := not_or.mp ha
      calc t.read a
          = (s.pushWord w).read a := State.read_of_mem (s.pushWord w) t a hw
        _ = (s.push (highByte w)).read a := read_push_of_ne (s.push (highByte w)) (lowByte w) hsecond
        _ = s.read a := read_push_of_ne s (highByte w) hfirst

/-! ### The registers (R21 to R25) -/

theorem a_ruleOf {m : Mnemonic}
    (h : m ∉ [.lda, .txa, .tya, .pla, .adc, .sbc, .and, .ora, .eor, .slo, .rla, .sre, .rra, .isc, .lax, .anc, .alr,
      .arr])
    (ho : o ≠ .acc) : (ruleOf m o s).a = s.a := by
  cases m with
  | lda | txa | tya | pla | adc | sbc | and | ora | eor | slo | rla | sre | rra | isc | lax | anc | alr | arr =>
    exact absurd (by decide) h
  | asl | lsr | rol | ror | inc | dec | dcp | sta | stx | sty | sax => exact writeOperand_a_of_ne s _ ho
  | bpl | bmi | bvc | bvs | bcc | bcs | bne | beq => exact branch_a s _ o
  | _ => cases o <;> rfl

theorem x_ruleOf {m : Mnemonic} (h : m ∉ [.ldx, .tax, .tsx, .inx, .dex, .lax, .sbx]) : (ruleOf m o s).x = s.x := by
  cases m with
  | ldx | tax | tsx | inx | dex | lax | sbx => exact absurd (by decide) h
  | bpl | bmi | bvc | bvs | bcc | bcs | bne | beq => exact branch_x s _ o
  | _ => cases o <;> rfl

theorem y_ruleOf {m : Mnemonic} (h : m ∉ [.ldy, .tay, .iny, .dey]) : (ruleOf m o s).y = s.y := by
  cases m with
  | ldy | tay | iny | dey => exact absurd (by decide) h
  | bpl | bmi | bvc | bvs | bcc | bcs | bne | beq => exact branch_y s _ o
  | _ => cases o <;> rfl

theorem sp_ruleOf {m : Mnemonic} (h : m ∉ [.txs, .pha, .php, .pla, .plp, .jsr, .rts, .rti]) :
    (ruleOf m o s).sp = s.sp := by
  cases m with
  | txs | pha | php | pla | plp | jsr | rts | rti => exact absurd (by decide) h
  | bpl | bmi | bvc | bvs | bcc | bcs | bne | beq => exact branch_sp s _ o
  | _ => cases o <;> rfl

/-- Only a transfer of control moves `PC` past where the rule found it. -/
theorem pc_ruleOf {m : Mnemonic}
    (h : m ∉ [.bpl, .bmi, .bvc, .bvs, .bcc, .bcs, .bne, .beq, .jmp, .jsr, .rts, .rti]) :
    (ruleOf m o s).pc = s.pc := by
  cases m with
  | bpl | bmi | bvc | bvs | bcc | bcs | bne | beq | jmp | jsr | rts | rti => exact absurd (by decide) h
  | _ => cases o <;> rfl

end

end Sys2Proof.Proofs
end

section
/-! The invariant of the machine: reset and bootstrap have it (70_reset_and_hazards.md R330, R331), every step and
every host move keeps it (R332 to R337), so every reachable state has it; and the four ways a step can end
(60_exceptions.md R300, R310). -/

namespace Sys2Proof.Proofs

open Sys2Proof.Machine

/-! ### A step (R84, R302, R303, R306, R310) -/

theorem mapped_congr {i j : Instr} (h : i.descriptor.set = j.descriptor.set) (p : Policy) :
    i.mapped p = j.mapped p := by
  rw [Instr.mapped, Instr.mapped, h]

/-- Whether a fetched byte is mapped, and its mnemonic, can be told from that byte alone (R81). -/
theorem fetched_row (s : State) :
    (decodeBytes s.fetched.opcode 0 0).mapped s.policy = s.fetched.mapped s.policy ∧
      (decodeBytes s.fetched.opcode 0 0).mnemonic = s.fetched.mnemonic := by
  obtain ⟨-, hmnemonic, hset, -⟩ := row_decodeBytes (s.codeByte 0) (s.codeByte 1) (s.codeByte 2)
  have hopcode : s.fetched.opcode = s.codeByte 0 := opcode_decodeBytes _ _ _
  rw [hopcode]
  exact ⟨(mapped_congr hset s.policy).symm, hmnemonic.symm⟩

/-- The illegal-opcode fault keeps the invariant (R302). -/
theorem inv_takeIllegalOpcode {s : State} (h : Inv s) (hmapped : s.fetched.mapped s.policy = false) :
    Inv (s.takeIllegalOpcode s.fetched.opcode) := by
  obtain ⟨hwf, hbit5, -⟩ := h
  exact ⟨hwf, hbit5, rfl, (fetched_row s).1.trans hmapped⟩

/-- The refusal keeps the invariant (R306). -/
theorem inv_takeRefusal {s : State} (h : Inv s) (hrefused : s.decimalRefused s.fetched.mnemonic = true) :
    Inv (s.takeRefusal .decimalMode s.fetched.opcode) := by
  obtain ⟨hwf, hbit5, -⟩ := h
  have hd : s.flag .d = true := flag_d_of_decimalRefused s _ hrefused
  exact ⟨hwf, hbit5, rfl, hd, (congrArg s.decimalRefused (fetched_row s).2).trans hrefused⟩

theorem statusAgrees_of_running {s : State} (h : s.status = .running) : StatusAgrees s := by
  rw [StatusAgrees, h]
  exact trivial

/-- After its rule a running engine still runs, or BRK has halted it. -/
theorem status_ruleOf_of_running {s : State} (hrunning : s.status = .running) (m : Mnemonic) (o : Operand) :
    (ruleOf m o s).status = if m = .brk then .halted .brk else .running := by
  split
  case isTrue hbrk => rw [hbrk]; rfl
  case isFalse hbrk => rw [status_ruleOf o s hbrk, hrunning]

/-- An instruction's own rule keeps the invariant: BRK's halt sets B (R303), and every other leaves the engine running.
-/
theorem inv_ruleOf {s : State} (h : Inv s) (hrunning : s.status = .running) (m : Mnemonic) (o : Operand) :
    Inv (ruleOf m o s) := by
  obtain ⟨hwf, hbit5, -⟩ := h
  refine ⟨wf_mem_ruleOf o s m hwf, ?bit5, ?status⟩
  case bit5 =>
    have hkept : ∀ f ∈ flagsWritten m, 5 ≠ f.bit := fun f _ => by cases f <;> decide
    rw [getLsbD_p_ruleOf o s hkept, hbit5]
  case status =>
    by_cases hbrk : m = .brk
    · rw [hbrk]
      exact getFlag_setFlag_same .b true s.p
    · exact statusAgrees_of_running ((status_ruleOf o s hbrk).trans hrunning)

/-- The advance of `PC` and `cycles` keeps the invariant of a running engine (R84). -/
theorem inv_begun {s : State} (h : Inv s) (hrunning : s.status = .running) (i : Instr) : Inv (s.begun i) := by
  obtain ⟨hwf, hbit5, -⟩ := h
  exact ⟨hwf, hbit5, statusAgrees_of_running hrunning⟩

/-- A step is taken in status `Running` only (R84). -/
theorem running_of_step {s t : State} (h : step s = .next t) : s.status = .running := by
  by_contra hstopped
  rw [noStepUnlessRunning s hstopped] at h
  cases h

/-- Settles O58: what a running engine fetches faults, is refused, or runs its rule, and each keeps the invariant. -/
theorem stepKeepsTheInvariant : Obligations.StepKeepsTheInvariant := by
  intro s t hinv ht
  have hrunning := running_of_step ht
  rw [step_of_running hrunning] at ht
  rcases exec_cases s.fetched s with ⟨hmapped, hexec⟩ | ⟨-, hrefused, hexec⟩ | ⟨-, -, hexec⟩
  all_goals
    rw [hexec] at ht
    obtain rfl := Host.Outcome.next.inj ht
  · exact inv_takeIllegalOpcode hinv hmapped
  · exact inv_takeRefusal hinv hrefused
  · exact inv_ruleOf (inv_begun hinv hrunning _) hrunning _ _

/-- Settles O44: the three cases of `exec`, which exclude each other, and the status each leaves. -/
theorem stepEndsInOneOutcome : Obligations.StepEndsInOneOutcome := by
  intro s hrunning
  rw [step_of_running hrunning]
  rcases exec_cases s.fetched s with ⟨hmapped, hexec⟩ | ⟨hmapped, hrefused, hexec⟩ | ⟨hmapped, hrefused, hexec⟩
  all_goals refine ⟨_, hexec, ?_⟩
  · simp [hmapped]
  · simp [hmapped, hrefused]
  · have hstatus := status_ruleOf_of_running (s := s.begun s.fetched) hrunning s.fetched.mnemonic
      (s.resolved s.fetched).opnd
    simp [hmapped, hrefused, hstatus]

/-! ### Bootstrap and the host (R330 to R337) -/

/-- Settles O53: every field is the reset state's own, its memory being empty; bootstrap with the default parameters
loads nothing. -/
theorem resetState : Obligations.ResetState :=
  ⟨rfl, rfl, rfl, rfl, rfl, rfl, rfl, rfl, fun _ => rfl, rfl⟩

/-- Settles O56: memory is empty, `P` is 0, and an idle engine has nothing to agree with. -/
theorem resetHasTheInvariant : Obligations.ResetHasTheInvariant :=
  ⟨reset_mem_wf, rfl, trivial⟩

/-- Loading an image keeps the canonical form of memory. -/
theorem wf_loadImage (image : List (Addr × Byte)) {m : Memory} (h : Memory.wf m = true) :
    Memory.wf (loadImage image m) = true := by
  induction image generalizing m with
  | nil => exact h
  | cons av image ih => exact ih (Memory.wf_write h av.1 av.2)

/-- The byte an image gives an address: that of its last pair there, if it has one (R331). -/
def imageByte (image : List (Addr × Byte)) (a : Addr) : Option Byte :=
  (image.reverse.find? fun av => av.1 == a).map Prod.snd

theorem imageByte_cons (av : Addr × Byte) (image : List (Addr × Byte)) (a : Addr) :
    imageByte (av :: image) a = (imageByte image a).or (if av.1 = a then some av.2 else none) := by
  rw [imageByte, imageByte, List.reverse_cons, List.find?_append, Option.map_or]
  by_cases h : av.1 = a <;> simp [h]

/-- A byte of memory after loading is the image's, or the one that was there where the image gives none. -/
theorem read_loadImage (image : List (Addr × Byte)) {m : Memory} (h : Memory.wf m = true) (a : Addr) :
    Memory.read (loadImage image m) a.toNat = (imageByte image a).getD (Memory.read m a.toNat) := by
  induction image generalizing m with
  | nil => rfl
  | cons av image ih =>
    have hload : loadImage (av :: image) m = loadImage image (Memory.write m av.1.toNat av.2) := rfl
    rw [hload, ih (Memory.wf_write h av.1 av.2), imageByte_cons]
    by_cases ha : av.1 = a
    · rw [if_pos ha, ha, Memory.read_write_same h]
      cases imageByte image a <;> rfl
    · have hne : a.toNat ≠ av.1.toNat := fun e => ha (BitVec.eq_of_toNat_eq e).symm
      rw [if_neg ha, Memory.read_write_of_ne m hne, Option.or_none]

/-- Settles O54: memory is the image loaded into no memory; the other fields are the definition's. -/
theorem bootstrapLoadsTheImage : Obligations.BootstrapLoadsTheImage := by
  intro params a s
  exact ⟨read_loadImage params.image reset_mem_wf a, rfl⟩

/-- Settles O55: each move is one arm of the definition, and in every other status it has none. -/
theorem hostMoves : Obligations.HostMoves := by
  intro s
  unfold hostMove
  cases hs : s.status with
  | idle | running | halted | faulted | refused => simp [State.setStatus]

/-- Everything a host move can do: it changes `status` alone, to `Running` or to a halt that is not BRK's. -/
theorem hostMove_cases {m : HostMove} {s t : State} (h : hostMove m s = some t) :
    t = s.setStatus .running ∨ t = s.setStatus (.halted .hostStop) := by
  unfold hostMove at h
  split at h <;> simp_all

/-- Settles O57: loading keeps memory canonical and leaves the rest as at reset; a host move changes `status` alone, to
one that has nothing to agree with. -/
theorem bootstrapAndHostMovesKeepTheInvariant : Obligations.BootstrapAndHostMovesKeepTheInvariant := by
  refine ⟨fun params => ?bootstrap, fun m s t hinv hmove => ?move⟩
  case bootstrap =>
    obtain ⟨hwf, hbit5, -⟩ := resetHasTheInvariant
    exact ⟨wf_loadImage params.image hwf, hbit5, trivial⟩
  case move =>
    obtain ⟨hwf, hbit5, -⟩ := hinv
    obtain rfl | rfl := hostMove_cases hmove
    · exact ⟨hwf, hbit5, trivial⟩
    · exact ⟨hwf, hbit5, trivial⟩

/-- Settles O59, by induction over `Reachable`. -/
theorem everyReachableStateHasTheInvariant : Obligations.EveryReachableStateHasTheInvariant := by
  intro params s hreachable
  obtain ⟨hboot, hhost⟩ := bootstrapAndHostMovesKeepTheInvariant
  induction hreachable with
  | boot => exact hboot params
  | step _ hstep ih => exact stepKeepsTheInvariant _ _ ih hstep
  | host m _ hmove ih => exact hhost m _ _ ih hmove

end Sys2Proof.Proofs
end

section
/-! What an instruction leaves unchanged: the bits of `P` (10_state.md R30 to R34), the registers (R21 to R25) and
memory (20_memory.md R52, R60). -/

namespace Sys2Proof.Proofs

open Sys2Proof.Machine

/-- A field is unchanged by an instruction when the fault, the refusal and the rule of its mnemonic leave it (R310). -/
theorem unchanged_of_exec {α : Type} (field : State → α) {i : Instr} {s t : State} (ht : exec i s = .next t)
    (hfault : field (s.takeIllegalOpcode i.opcode) = field s)
    (hrefusal : field (s.takeRefusal .decimalMode i.opcode) = field s)
    (hrule : field (ruleOf i.mnemonic (s.resolved i).opnd (s.begun i)) = field s) : field t = field s := by
  rcases exec_cases i s with ⟨-, hexec⟩ | ⟨-, -, hexec⟩ | ⟨-, -, hexec⟩
  all_goals
    rw [hexec] at ht
    obtain rfl := Host.Outcome.next.inj ht
  · exact hfault
  · exact hrefusal
  · exact hrule

/-! ### The bits of `P` (R30 to R34) -/

theorem flag_of_exec {i : Instr} {s t : State} (ht : exec i s = .next t) {f : Flag} (h : f ∉ flagsWritten i.mnemonic) :
    t.flag f = s.flag f :=
  unchanged_of_exec (·.flag f) ht rfl rfl (flag_ruleOf _ (s.begun i) h)

/-- Settles O45: a mnemonic outside a flag's list has a rule that does not write the flag. -/
theorem flagsChangedOnlyByTheirWriters : Obligations.FlagsChangedOnlyByTheirWriters := by
  intro i s t ht
  refine ⟨fun h => ⟨flag_of_exec ht ?n, flag_of_exec ht ?z⟩, fun h => flag_of_exec ht ?v, fun h => flag_of_exec ht ?c⟩
  all_goals
    revert h
    cases i.mnemonic <;> decide

/-- Settles O46: as for the other flags; bit 5 is no flag's, and the only rule that writes B sets it. -/
theorem controlBitsOfPChangeOnlyByTheirWriters : Obligations.ControlBitsOfPChangeOnlyByTheirWriters := by
  intro i s t ht
  have hb : i.mnemonic ≠ .brk → t.flag .b = s.flag .b := by
    intro h
    apply flag_of_exec ht
    revert h
    cases i.mnemonic <;> decide
  refine ⟨fun h => flag_of_exec ht ?d, fun h => flag_of_exec ht ?i, hb, fun hset => ?set, ?bit5⟩
  case d =>
    revert h
    cases i.mnemonic <;> decide
  case i =>
    revert h
    cases i.mnemonic <;> decide
  case set =>
    by_cases hbrk : i.mnemonic = .brk
    · rw [exec_of_alwaysRuns hbrk rfl s] at ht
      obtain rfl := Host.Outcome.next.inj ht
      exact getFlag_setFlag_same .b true s.p
    · rw [hb hbrk, hset]
  case bit5 =>
    have hnone : ∀ f ∈ flagsWritten i.mnemonic, 5 ≠ f.bit := fun f _ => by cases f <;> decide
    exact unchanged_of_exec (·.p.getLsbD 5) ht rfl rfl (getLsbD_p_ruleOf _ (s.begun i) hnone)

/-! ### The registers (R21 to R25) -/

/-- Only the accumulator mode resolves to A (R88). -/
theorem mode_eq_accumulator_of_resolved {i : Instr} {s : State} (h : (s.resolved i).opnd = .acc) :
    i.mode = .accumulator := by
  rw [State.resolved] at h
  cases hmode : i.mode with
  | accumulator => rfl
  | _ =>
    rw [hmode] at h
    exact Operand.noConfusion h

/-- Settles O47: the fault and the refusal leave the registers but `PC`, and the rule of the mnemonic leaves each
register it is not listed for. -/
theorem registersChangedOnlyByTheirWriters : Obligations.RegistersChangedOnlyByTheirWriters := by
  intro i s t ht
  refine ⟨fun h hmode => ?a, fun h => ?x, fun h => ?y, fun h => ?sp, fun hruns h => ?pc, ?policy⟩
  case a =>
    have hacc : (s.resolved i).opnd ≠ .acc := fun hacc => hmode (mode_eq_accumulator_of_resolved hacc)
    exact unchanged_of_exec State.a ht rfl rfl (a_ruleOf _ (s.begun i) h hacc)
  case x => exact unchanged_of_exec State.x ht rfl rfl (x_ruleOf _ (s.begun i) h)
  case y => exact unchanged_of_exec State.y ht rfl rfl (y_ruleOf _ (s.begun i) h)
  case sp => exact unchanged_of_exec State.sp ht rfl rfl (sp_ruleOf _ (s.begun i) h)
  case pc =>
    obtain ⟨hmapped, hrefused⟩ := hruns
    rw [exec_runs i s hmapped hrefused] at ht
    obtain rfl := Host.Outcome.next.inj ht
    exact pc_ruleOf _ (s.begun i) h
  case policy => exact unchanged_of_exec State.policy ht rfl rfl (policy_ruleOf _ (s.begun i) _)

/-! ### Memory (R52, R60, R101) -/

/-- The write and the read-modify-write rows are those whose rule stores to its operand: row by row of R102's table. -/
theorem storeTarget_eq_operand_iff (i : Instr) :
    storeTarget i.mnemonic = .operand ↔ i.descriptor.cls = .write ∨ i.descriptor.cls = .rmw := by
  have hrow : decide (storeTarget i.mnemonic = .operand) =
      (decide (i.descriptor.cls = .write) || decide (i.descriptor.cls = .rmw)) := by
    cases i <;> rfl
  rw [← Bool.decide_or, decide_eq_decide] at hrow
  exact hrow

theorem storeTarget_eq_nowhere {m : Mnemonic} (hoperand : storeTarget m ≠ .operand) (hstack : m ∉ [.pha, .php, .jsr]) :
    storeTarget m = .nowhere := by
  revert hoperand hstack
  cases m <;> decide

theorem read_of_exec {i : Instr} {s t : State} (ht : exec i s = .next t) {target : StoreTarget}
    (htarget : storeTarget i.mnemonic = target) {a : Addr} (ha : ¬ StoresAt (s.resolved i).opnd s target a) :
    t.read a = s.read a := by
  have hrule := storesTo_ruleOf (s.resolved i).opnd (s.begun i) i.mnemonic
  rw [htarget] at hrule
  have hread := read_of_storesTo _ (s.begun i) hrule (a := a) (by cases target <;> exact ha)
  exact unchanged_of_exec (·.read a) ht rfl rfl hread

/-- Settles O48: the target of the instruction's store, by its class or its mnemonic, says which bytes it can change. -/
theorem memoryChangedOnlyWhereStored : Obligations.MemoryChangedOnlyWhereStored := by
  intro i s t ht
  refine ⟨fun ea hcls hea a ha => ?memory, fun hcls hacc a => ?accumulator, fun hm a ha => ?byte,
    fun hm a hfirst hsecond => ?word, fun hwrite hrmw hm a => ?none⟩
  case memory =>
    refine read_of_exec ht ((storeTarget_eq_operand_iff i).mpr hcls) fun hstores => ?_
    exact ha (Operand.mem.inj (hstores.symm.trans hea))
  case accumulator =>
    refine read_of_exec ht ((storeTarget_eq_operand_iff i).mpr (.inr hcls)) fun hstores => ?_
    exact Operand.noConfusion (hstores.symm.trans hacc)
  case byte =>
    have htarget : storeTarget i.mnemonic = .stackByte := by
      revert hm
      cases i.mnemonic <;> decide
    exact read_of_exec ht htarget ha
  case word =>
    have htarget : storeTarget i.mnemonic = .stackWord := by rw [hm]; rfl
    exact read_of_exec ht htarget (not_or.mpr ⟨hfirst, hsecond⟩)
  case none =>
    have hoperand : storeTarget i.mnemonic ≠ .operand := fun h =>
      ((storeTarget_eq_operand_iff i).mp h).elim hwrite hrmw
    exact read_of_exec ht (storeTarget_eq_nowhere hoperand hm) id

end Sys2Proof.Proofs
end

section
/-! Control transfer and the status register on the stack: the branches (44_control.md R220 to R228), JMP and JSR
(R229, R230) with RTS after JSR (R231), BRK (R233), the instructions on I and D (R237, R238, R240, R241), and PHP, PLP
and RTI (41_transfer_stack.md R157, R159; R232). -/

namespace Sys2Proof.Proofs

open Sys2Proof.Machine

/-! ### Branches (R220 to R228) -/

/-- A branch to a relative target in numbers: 1 cycle more where it is taken, and 1 more again where the target is on
another page than the instruction after it. -/
theorem branch_rel (c : State → Bool) (s : State) (target : Addr) :
    branch c (.rel target) s =
      if c s then
        { s with
          pc := target
          cycles := s.cycles + if target.toNat / 256 = s.pc.toNat / 256 then 1 else 2 }
      else s := by
  rw [branch]
  by_cases hpage : target.toNat / 256 = s.pc.toNat / 256
  · have hcross : crossesPage target s.pc = false := by
      rw [← Bool.not_eq_true, crossesPage_iff, not_not, hpage]
    rw [if_pos hpage, hcross]
    rfl
  · rw [if_neg hpage, (crossesPage_iff target s.pc).mpr hpage]
    rfl

/-- Settles O31: a branch always runs its rule, two bytes and 2 cycles further on, where its condition reads the flags
as they were. -/
theorem branchesTakeTheirCondition : Obligations.BranchesTakeTheirCondition := by
  intro off s next target after
  have hafter (c : State → Bool) : .next (branch c (.rel target) { s with pc := next, cycles := s.cycles + 2 }) =
      after (c { s with pc := next, cycles := s.cycles + 2 }) := by
    rw [branch_rel]
    by_cases hc : c { s with pc := next, cycles := s.cycles + 2 } = true
    · by_cases hpage : target.toNat / 256 = next.toNat / 256 <;> simp [after, hc, hpage, Nat.add_assoc]
    · simp [after, hc]
  exact ⟨(exec_of_alwaysRuns rfl rfl s).trans (hafter fun s => !s.flag .n),
    (exec_of_alwaysRuns rfl rfl s).trans (hafter fun s => s.flag .n),
    (exec_of_alwaysRuns rfl rfl s).trans (hafter fun s => !s.flag .v),
    (exec_of_alwaysRuns rfl rfl s).trans (hafter fun s => s.flag .v),
    (exec_of_alwaysRuns rfl rfl s).trans (hafter fun s => !s.flag .c),
    (exec_of_alwaysRuns rfl rfl s).trans (hafter fun s => s.flag .c),
    (exec_of_alwaysRuns rfl rfl s).trans (hafter fun s => !s.flag .z),
    (exec_of_alwaysRuns rfl rfl s).trans (hafter fun s => s.flag .z)⟩

/-! ### Jumps and calls (R229 to R231) -/

theorem sub_one_sub_one (sp : Byte) : sp - 1 - 1 = sp - 2 := by bv_omega

theorem add_three_sub_one (pc : Addr) : pc + 3 - 1 = pc + 2 := by bv_omega

/-- A word pushed stands at the two stack addresses from `SP` down, its high byte first. -/
theorem pushWord_eq (s : State) (w : Addr) :
    s.pushWord w =
      { (s.write (stackAddr s.sp) (highByte w)).write (stackAddr (s.sp - 1)) (lowByte w) with sp := s.sp - 2 } := by
  rw [← sub_one_sub_one]
  rfl

/-- JSR's rule: the address before `PC` pushed, and `PC` at the target. -/
theorem jsrRule_mem (s : State) (w : Addr) :
    jsrRule (.mem w) s =
      { (s.write (stackAddr s.sp) (highByte (s.pc - 1))).write (stackAddr (s.sp - 1)) (lowByte (s.pc - 1)) with
        pc := w, sp := s.sp - 2 } := by
  rw [jsrRule, pushWord_eq]
  rfl

/-- Settles O32: each always runs its rule, three bytes and its base cost further on; the last byte of a JSR is the one
before. -/
theorem jumpsAndCalls : Obligations.JumpsAndCalls := by
  intro w s
  refine ⟨exec_of_alwaysRuns rfl rfl s, exec_of_alwaysRuns rfl rfl s, ?jsr⟩
  case jsr =>
    have hruns : exec (.jsrAbs w) s = .next (jsrRule (.mem w) { s with pc := s.pc + 3, cycles := s.cycles + 6 }) :=
      exec_of_alwaysRuns rfl rfl s
    rw [hruns, jsrRule_mem, add_three_sub_one]
    rfl

theorem stackAddr_injective {x y : Byte} (h : stackAddr x = stackAddr y) : x = y := by
  have hnat := congrArg BitVec.toNat h
  rw [toNat_stackAddr, toNat_stackAddr] at hnat
  exact BitVec.eq_of_toNat_eq (by omega)

/-- The two bytes of a word on the stack are at two addresses, at the wrap too. -/
theorem stackAddr_ne_stackAddr_sub_one (sp : Byte) : stackAddr sp ≠ stackAddr (sp - 1) := by
  intro h
  have hsp := stackAddr_injective h
  bv_omega

/-- After JSR the return address stands on the stack, high byte above low byte. -/
theorem read_of_jsr {w : Addr} {s t : State} (hwf : Memory.wf s.mem = true) (ht : exec (.jsrAbs w) s = .next t) :
    t.pc = w ∧ t.sp = s.sp - 2 ∧ t.read (stackAddr s.sp) = highByte (s.pc + 2) ∧
      t.read (stackAddr (s.sp - 1)) = lowByte (s.pc + 2) := by
  obtain ⟨-, -, hjsr⟩ := jumpsAndCalls w s
  obtain rfl := Host.Outcome.next.inj (hjsr.symm.trans ht)
  refine ⟨rfl, rfl, ?high, ?low⟩
  case high =>
    exact (State.read_write_of_ne _ (stackAddr_ne_stackAddr_sub_one s.sp) _).trans (read_write_same s hwf _ _)
  case low => exact read_write_same _ (Memory.wf_write hwf _ _) _ _

/-- Settles O34: RTS pulls the two bytes the JSR pushed, which are the address of its last byte. -/
theorem rtsAfterJsrReturnsToTheNextInstruction : Obligations.RtsAfterJsrReturnsToTheNextInstruction := by
  intro w s t hwf ht
  obtain ⟨-, hsp, hhigh, hlow⟩ := read_of_jsr hwf ht
  have hfirst : t.sp + 1 = s.sp - 1 := by rw [hsp]; bv_omega
  have hsecond : t.sp + 2 = s.sp := by rw [hsp]; bv_omega
  have hreturn : s.pc + 2 + 1 = s.pc + 3 := BitVec.add_assoc s.pc 2 1
  rw [rtsReturns t, hfirst, hsecond, hhigh, hlow, wordOfBytes_bytes, hreturn]

/-! ### BRK, and the instructions on I and D (R233, R237, R238, R240, R241) -/

/-- Settles O35: BRK always runs its rule, one byte and its base cost further on, which sets B, by its mask, and the
status. -/
theorem brkHaltsAndSetsB : Obligations.BrkHaltsAndSetsB :=
  fun s => exec_of_implied rfl rfl s

/-- Settles O38: each always runs its rule, which writes one flag; the masks of I and D, complemented to clear, are the
equation's constants by definition (R27, R28). -/
theorem interruptAndDecimalInstructions : Obligations.InterruptAndDecimalInstructions := by
  intro s b
  refine ⟨?cli, ?sei, ?cld, ?sed⟩
  all_goals exact exec_of_implied rfl rfl s

/-! ### The status register on the stack (R157, R159, R232) -/

/-- What PHP pushes and PLP pulls gives `P` back: the bits that are pushed as 1 are kept from `P`. -/
theorem pulledStatus_or_keptBits (p : Byte) : pulledStatus (p ||| keptBits) p = p := by
  apply BitVec.eq_of_getLsbD_eq
  intro k hk
  rw [getLsbD_pulledStatus, BitVec.getLsbD_or, getLsbD_keptBits]
  by_cases hkept : k = 5 ∨ k = 4 <;> simp [hkept]

/-- RTI's rule: `P` pulled, then the word above it, with no plus one. -/
theorem rtiRule_eq (o : Operand) (s : State) :
    rtiRule o s =
      { s with
        pc := wordOfBytes (s.read (stackAddr (s.sp + 3))) (s.read (stackAddr (s.sp + 2)))
        sp := s.sp + 3
        p := pulledStatus s.pulled s.p } := by
  have hthree : s.sp + 1 + 2 = s.sp + 3 := BitVec.add_assoc s.sp 1 2
  rw [rtiRule, State.returnFromInterrupt, pullWord_eq, pulledWord_eq, State.setP_sp, State.pull_sp, hthree,
    add_one_add_one]
  rfl

/-- PHP stores `P` with bits 5 and 4 set, at `SP`, which it decrements. -/
theorem exec_php (s : State) :
    exec .php s = .next { s.write (stackAddr s.sp) (s.p ||| 0x30) with
      pc := s.pc + 1, sp := s.sp - 1, cycles := s.cycles + 3 } :=
  exec_of_implied rfl rfl s

theorem read_of_php {s t : State} (hwf : Memory.wf s.mem = true) (ht : exec .php s = .next t) :
    t.p = s.p ∧ t.sp + 1 = s.sp ∧ t.read (stackAddr s.sp) = s.p ||| keptBits := by
  obtain rfl := Host.Outcome.next.inj ((exec_php s).symm.trans ht)
  exact ⟨rfl, BitVec.sub_add_cancel s.sp 1, read_write_same s hwf _ _⟩

/-- PLP pulls `P` but for bits 5 and 4. -/
theorem exec_plp (s : State) :
    exec .plp s = .next { s with
      pc := s.pc + 1, sp := s.sp + 1, p := pulledStatus s.pulled s.p, cycles := s.cycles + 4 } :=
  exec_of_implied rfl rfl s

/-- Settles O22: each always runs its rule; PLP after PHP pulls the byte PHP pushed. -/
theorem statusOnTheStack : Obligations.StatusOnTheStack := by
  refine ⟨fun s => ⟨exec_php s, exec_plp s, ?rti⟩, fun s t hwf ht => ?restored⟩
  case rti =>
    have hruns := exec_of_implied (i := .rti) rfl rfl s
    exact hruns.trans (congrArg Host.Outcome.next (rtiRule_eq .none _))
  case restored =>
    obtain ⟨hp, hsp, hread⟩ := read_of_php hwf ht
    have hpulled : t.pulled = s.p ||| keptBits := by rw [State.pulled, hsp, hread]
    rw [exec_plp, hpulled, hp, pulledStatus_or_keptBits, hsp]

end Sys2Proof.Proofs
end

section
/-! A store is seen by the next fetch (20_memory.md R67, 70_reset_and_hazards.md R341). -/

namespace Sys2Proof.Proofs

open Sys2Proof.Machine

/-- Where memory is as after a byte write at `PC`, that byte is the opcode of the next instruction. -/
theorem opcode_fetched_of_stored {s t : State} {a : Addr} {v : Byte} (hwf : Memory.wf s.mem = true) (hpc : t.pc = a)
    (hmem : t.mem = (s.write a v).mem) : t.fetched.opcode = v := by
  rw [opcode_fetched, hpc, State.read_of_mem (s.write a v) t a hmem, read_write_same s hwf]

/-- Settles O49: an instruction that executes runs its rule, which leaves `PC` at the next instruction and memory as
after the byte write there; JSR leaves `PC` at its target, and its two bytes on the stack. -/
theorem storeIsSeenByTheNextFetch : Obligations.StoreIsSeenByTheNextFetch := by
  intro i s t hwf hruns ht next m carry
  obtain ⟨hmapped, hrefused⟩ := hruns
  have hrule := Host.Outcome.next.inj ((exec_runs i s hmapped hrefused).symm.trans ht)
  have hstored {mn : Mnemonic} {o : Operand} {a : Addr} (v : Byte) (ho : (s.resolved i).opnd = o) (ha : a = next)
      (hm : i.mnemonic = mn) (hpc : (ruleOf mn o (s.begun i)).pc = next)
      (hmem : (ruleOf mn o (s.begun i)).mem = (s.write a v).mem) : t.fetched.opcode = v := by
    rw [← ho, ← hm, hrule] at hpc hmem
    exact opcode_fetched_of_stored hwf (hpc.trans ha.symm) hmem
  refine ⟨fun hopnd => ?operand, fun hm hnext => hstored s.a rfl hnext hm rfl rfl,
    fun hm hnext => hstored (s.p ||| 0x30) rfl hnext hm rfl rfl, fun w hi => ?jsr⟩
  case operand =>
    have hror : (m >>> 1) ||| (carry <<< 7) = (ror8 m (s.flag .c)).1 := by rw [ror8_eq_or_carry_shift]
    rw [hror]
    simp only [List.mem_cons, List.not_mem_nil, or_false]
    refine ⟨fun hm => hstored s.a hopnd rfl hm rfl rfl, fun hm => hstored s.x hopnd rfl hm rfl rfl,
      fun hm => hstored s.y hopnd rfl hm rfl rfl, fun hm => hstored (s.a &&& s.x) hopnd rfl hm rfl rfl,
      ?asl, ?lsr, ?rol, ?ror, ?inc, ?dec⟩
    all_goals
      rintro (hm | hm)
      · exact hstored _ hopnd rfl hm rfl rfl
      · exact hstored _ hopnd rfl hm rfl rfl
  case jsr =>
    subst hi
    obtain ⟨hpc, -, hhigh, hlow⟩ := read_of_jsr hwf ht
    rw [opcode_fetched, hpc]
    exact ⟨fun hw => hw ▸ hhigh, fun hw => hw ▸ hlow⟩

end Sys2Proof.Proofs
end

section
/-! What no instruction reads: `cycles` (10_state.md R36), `P.I` but by PHP (R33, 60_exceptions.md R307), and
`P_DECIMAL` with `P.D = 0` (42_arithmetic.md R172). Each statement compares an instruction in two states. -/

namespace Sys2Proof.Proofs

open Sys2Proof.Machine

/-- Two states in which an instruction is as mapped and as refused end related when their faults, their refusals and
what the rule of the mnemonic leaves them are (R310). -/
theorem exec_related (R : State → State → Prop) {i : Instr} {s s' t : State} (ht : exec i s = .next t)
    (hmapped : i.mapped s'.policy = i.mapped s.policy)
    (hrefused : s'.decimalRefused i.mnemonic = s.decimalRefused i.mnemonic)
    (hfault : R (s'.takeIllegalOpcode i.opcode) (s.takeIllegalOpcode i.opcode))
    (hrefusal : R (s'.takeRefusal .decimalMode i.opcode) (s.takeRefusal .decimalMode i.opcode))
    (hrule : R (ruleOf i.mnemonic (s'.resolved i).opnd (s'.begun i))
      (ruleOf i.mnemonic (s.resolved i).opnd (s.begun i))) :
    ∃ t', exec i s' = .next t' ∧ R t' t := by
  rw [exec_eq_perform i s', perform, hmapped, hrefused]
  rcases exec_cases i s with ⟨hm, hexec⟩ | ⟨hm, hd, hexec⟩ | ⟨hm, hd, hexec⟩
  all_goals
    rw [hexec] at ht
    obtain rfl := Host.Outcome.next.inj ht
    rw [hm]
  · exact ⟨_, rfl, hfault⟩
  · rw [hd]
    exact ⟨_, rfl, hrefusal⟩
  · rw [hd]
    exact ⟨_, rfl, hrule⟩

/-! ### Branches in two states (R220 to R228) -/

/-- The mnemonics of the branches. -/
def branches : List Mnemonic := [.bpl, .bmi, .bvc, .bvs, .bcc, .bcs, .bne, .beq]

/-- The condition of a branch reads one flag, and that is not I (R221 to R228). -/
theorem ruleOf_of_mem_branches {m : Mnemonic} (h : m ∈ branches) :
    ∃ (f : Flag) (g : Bool → Bool), f ≠ .i ∧ ruleOf m = branch fun s => g (s.flag f) := by
  cases m with
  | bpl => exact ⟨.n, not, by decide, rfl⟩
  | bmi => exact ⟨.n, id, by decide, rfl⟩
  | bvc => exact ⟨.v, not, by decide, rfl⟩
  | bvs => exact ⟨.v, id, by decide, rfl⟩
  | bcc => exact ⟨.c, not, by decide, rfl⟩
  | bcs => exact ⟨.c, id, by decide, rfl⟩
  | bne => exact ⟨.z, not, by decide, rfl⟩
  | beq => exact ⟨.z, id, by decide, rfl⟩
  | _ => exact absurd h (by decide)

/-- A change of the state that leaves the flags a branch reads, `PC` and the additions to `cycles` alone can come
before or after it. -/
theorem ruleOf_comm_of_mem_branches {m : Mnemonic} (h : m ∈ branches) {change : State → State} {s : State}
    (hflag : ∀ f, f ≠ .i → (change s).flag f = s.flag f) (hpc : (change s).pc = s.pc)
    (hgo : ∀ n target, ((change s).addCycles n).setPc target = change ((s.addCycles n).setPc target)) (o : Operand) :
    ruleOf m o (change s) = change (ruleOf m o s) := by
  obtain ⟨f, g, hf, hrule⟩ := ruleOf_of_mem_branches h
  rw [hrule]
  cases o with
  | rel target =>
    rw [branch, branch, hflag f hf, hpc, hgo]
    split <;> rfl
  | _ => rfl

/-! ### Cycles (R36) -/

theorem addCycles_right_comm (s : State) (k n : Nat) : (s.addCycles k).addCycles n = (s.addCycles n).addCycles k :=
  congrArg (fun c => { s with cycles := c }) (Nat.add_right_comm s.cycles k n)

theorem begun_addCycles (i : Instr) (s : State) (n : Nat) : (s.addCycles n).begun i = (s.begun i).addCycles n :=
  (addCycles_right_comm (s.pastInstr i) (s.cost i) n).symm

/-- A rule does the same to a state with more cycles: mnemonic by mnemonic, only a branch charging any itself. -/
theorem ruleOf_addCycles (m : Mnemonic) (o : Operand) (s : State) (n : Nat) :
    ruleOf m o (s.addCycles n) = (ruleOf m o s).addCycles n := by
  by_cases hbranch : m ∈ branches
  case pos =>
    exact ruleOf_comm_of_mem_branches hbranch (change := (·.addCycles n)) (fun _ _ => rfl) rfl
      (fun k target => congrArg (·.setPc target) (addCycles_right_comm s n k)) o
  case neg =>
    cases m with
    | bpl | bmi | bvc | bvs | bcc | bcs | bne | beq => exact absurd (by decide) hbranch
    | _ => cases o <;> rfl

/-- Settles O50: the fault and the refusal charge nothing, the charge for the instruction adds to what was there, and
its rule does the same. -/
theorem cyclesAreNeverRead : Obligations.CyclesAreNeverRead := by
  intro i s t n ht
  have hrule : ruleOf i.mnemonic ((s.addCycles n).resolved i).opnd ((s.addCycles n).begun i) =
      (ruleOf i.mnemonic (s.resolved i).opnd (s.begun i)).addCycles n := by
    rw [begun_addCycles, ruleOf_addCycles]
    rfl
  obtain ⟨_, hexec, rfl⟩ := exec_related (fun t' t => t' = t.addCycles n) (s' := s.addCycles n) ht rfl rfl rfl rfl hrule
  exact hexec

/-! ### `P_DECIMAL` with `P.D = 0` (R172) -/

/-- The state under another setting of `P_DECIMAL`. -/
def withDecimal (d : DecimalPolicy) (s : State) : State := { s with policy := { s.policy with decimal := d } }

theorem decimalRefused_of_flag_d {s : State} (h : s.flag .d = false) (m : Mnemonic) : s.decimalRefused m = false := by
  simp [State.decimalRefused, h]

theorem aluAdd_of_flag_d {s : State} (h : s.flag .d = false) (m : Byte) : s.aluAdd m = addBinary s.a m (s.flag .c) := by
  rw [State.aluAdd, h]
  rfl

theorem aluSub_of_flag_d {s : State} (h : s.flag .d = false) (m : Byte) : s.aluSub m = subBinary s.a m (s.flag .c) := by
  rw [State.aluSub, h]
  rfl

theorem setAlu_aluAdd_withDecimal {s : State} (h : s.flag .d = false) (d : DecimalPolicy) (m : Byte) :
    (withDecimal d s).setAlu ((withDecimal d s).aluAdd m) = withDecimal d (s.setAlu (s.aluAdd m)) := by
  rw [aluAdd_of_flag_d h, aluAdd_of_flag_d (s := withDecimal d s) h]
  rfl

theorem setAlu_aluSub_withDecimal {s : State} (h : s.flag .d = false) (d : DecimalPolicy) (m : Byte) :
    (withDecimal d s).setAlu ((withDecimal d s).aluSub m) = withDecimal d (s.setAlu (s.aluSub m)) := by
  rw [aluSub_of_flag_d h, aluSub_of_flag_d (s := withDecimal d s) h]
  rfl

/-- A rule does the same under another setting of `P_DECIMAL`: mnemonic by mnemonic, the four that add or subtract
doing it in binary under both. -/
theorem ruleOf_withDecimal {s : State} (h : s.flag .d = false) (d : DecimalPolicy) (m : Mnemonic) (o : Operand) :
    ruleOf m o (withDecimal d s) = withDecimal d (ruleOf m o s) := by
  have hwritten (v : Byte) : (writeOperand s v o).flag .d = false :=
    (congrArg (getFlag .d) (writeOperand_p s v o)).trans h
  by_cases hbranch : m ∈ branches
  case pos => exact ruleOf_comm_of_mem_branches hbranch (fun _ _ => rfl) rfl (fun _ _ => rfl) o
  case neg =>
    cases m with
    | bpl | bmi | bvc | bvs | bcc | bcs | bne | beq => exact absurd (by decide) hbranch
    | adc => cases o <;> exact setAlu_aluAdd_withDecimal h d _
    | sbc => cases o <;> exact setAlu_aluSub_withDecimal h d _
    | rra =>
      have hcarry (v : Byte) (c : Bool) : ((writeOperand s v o).setFlag .c c).flag .d = false :=
        (getFlag_setFlag_of_ne (by decide) c _).trans (hwritten v)
      cases o <;> exact setAlu_aluAdd_withDecimal (hcarry _ _) d _
    | isc => cases o <;> exact setAlu_aluSub_withDecimal (hwritten _) d _
    | _ => cases o <;> rfl

/-- Settles O52: with `P.D = 0` nothing is refused, and every rule does the same. -/
theorem decimalPolicyMattersOnlyWithDSet : Obligations.DecimalPolicyMattersOnlyWithDSet := by
  intro i s t d hd ht
  have hrefused : (withDecimal d s).decimalRefused i.mnemonic = s.decimalRefused i.mnemonic := by
    rw [decimalRefused_of_flag_d hd, decimalRefused_of_flag_d (s := withDecimal d s) hd]
  have hrule := ruleOf_withDecimal (s := s.begun i) hd d i.mnemonic (s.resolved i).opnd
  obtain ⟨_, hexec, rfl⟩ :=
    exec_related (fun t' t => t' = withDecimal d t) (s' := withDecimal d s) ht rfl hrefused rfl rfl hrule
  exact hexec

/-! ### `P.I` (R33, R307) -/

/-- Two values of `P` that differ in I at most. -/
def AgreeButI (p' p : Byte) : Prop := ∀ k : Nat, k ≠ 2 → p'.getLsbD k = p.getLsbD k

theorem AgreeButI.getFlag {p' p : Byte} (h : AgreeButI p' p) {f : Flag} (hf : f ≠ .i) :
    Machine.getFlag f p' = Machine.getFlag f p := by
  rw [getFlag_eq_getLsbD, getFlag_eq_getLsbD]
  exact h f.bit fun hbit => hf (Flag.bit_inj hbit)

theorem AgreeButI.setFlag {p' p : Byte} (h : AgreeButI p' p) (f : Flag) (v : Bool) :
    AgreeButI (Machine.setFlag f v p') (Machine.setFlag f v p) := by
  intro k hk
  rw [getLsbD_setFlag, getLsbD_setFlag, h k hk]

theorem AgreeButI.setNZ {p' p : Byte} (h : AgreeButI p' p) (v : Byte) :
    AgreeButI (Machine.setNZ v p') (Machine.setNZ v p) :=
  (h.setFlag .n _).setFlag .z _

theorem AgreeButI.setFlags {p' p : Byte} (h : AgreeButI p' p) (r : AluResult) :
    AgreeButI (r.setFlags p') (r.setFlags p) :=
  (((h.setFlag .c r.c).setFlag .v r.v).setFlag .n r.n).setFlag .z r.z

theorem AgreeButI.compareFlags {p' p : Byte} (h : AgreeButI p' p) (reg m : Byte) :
    AgreeButI (Machine.compareFlags reg m p') (Machine.compareFlags reg m p) :=
  (h.setFlag .c _).setNZ _

theorem AgreeButI.pulledStatus {p' p : Byte} (h : AgreeButI p' p) (q : Byte) :
    AgreeButI (Machine.pulledStatus q p') (Machine.pulledStatus q p) := by
  intro k hk
  rw [getLsbD_pulledStatus, getLsbD_pulledStatus, h k hk]

/-- Two states that differ in I at most. -/
def SameButI (t' t : State) : Prop := t' = { t with p := t'.p } ∧ AgreeButI t'.p t.p

theorem SameButI.aluAdd {t' t : State} (h : SameButI t' t) (m : Byte) : t'.aluAdd m = t.aluAdd m := by
  obtain ⟨hsame, hp⟩ := h
  have hd : t'.flag .d = t.flag .d := hp.getFlag (by decide)
  have hc : t'.flag .c = t.flag .c := hp.getFlag (by decide)
  rw [State.aluAdd, State.aluAdd, hd, hc, hsame]

theorem SameButI.aluSub {t' t : State} (h : SameButI t' t) (m : Byte) : t'.aluSub m = t.aluSub m := by
  obtain ⟨hsame, hp⟩ := h
  have hd : t'.flag .d = t.flag .d := hp.getFlag (by decide)
  have hc : t'.flag .c = t.flag .c := hp.getFlag (by decide)
  rw [State.aluSub, State.aluSub, hd, hc, hsame]

theorem SameButI.setAlu {t' t : State} (h : SameButI t' t) {r' r : AluResult} (hr : r' = r) :
    SameButI (t'.setAlu r') (t.setAlu r) := by
  obtain ⟨hsame, hp⟩ := h
  rw [hr, hsame]
  exact ⟨rfl, hp.setFlags r⟩

/-- A rule but PHP's does the same to a state with another I, but for I itself: mnemonic by mnemonic, in groups that
read the same flags and end in the same flag operation. -/
theorem sameButI_ruleOf {m : Mnemonic} (hm : m ≠ .php) (o : Operand) (s : State) {p' : Byte} (hp : AgreeButI p' s.p) :
    SameButI (ruleOf m o { s with p := p' }) (ruleOf m o s) := by
  have hsame : SameButI { s with p := p' } s := ⟨rfl, hp⟩
  have hwritten (v : Byte) : SameButI (writeOperand { s with p := p' } v o) (writeOperand s v o) := by
    cases o <;> exact ⟨rfl, hp⟩
  have hcarry : State.flag { s with p := p' } .c = s.flag .c := hp.getFlag (by decide)
  by_cases hbranch : m ∈ branches
  case pos =>
    have hcomm := ruleOf_comm_of_mem_branches hbranch (s := s) (change := fun u => { u with p := p' })
      (fun f hf => hp.getFlag hf) rfl (fun _ _ => rfl) o
    obtain ⟨f, g, -, hrule⟩ := ruleOf_of_mem_branches hbranch
    have hkept : (ruleOf m o s).p = s.p := by rw [hrule, branch_p]
    rw [hcomm]
    exact ⟨rfl, hkept.symm ▸ hp⟩
  case neg =>
    cases m with
    | php => exact absurd rfl hm
    | bpl | bmi | bvc | bvs | bcc | bcs | bne | beq => exact absurd (by decide) hbranch
    | lda | ldx | ldy | tax | tay | txa | tya | tsx | pla | inc | inx | iny | dec | dex | dey | and | ora | eor | lax =>
      cases o <;> exact ⟨rfl, hp.setNZ _⟩
    | cmp | cpx | cpy | dcp => cases o <;> exact ⟨rfl, hp.compareFlags _ _⟩
    | asl | lsr | slo | sre | alr | sbx => cases o <;> exact ⟨rfl, (hp.setFlag _ _).setNZ _⟩
    | rol | ror | rla =>
      dsimp only [ruleOf, rolRule, rorRule, rlaRule]
      rw [hcarry]
      cases o <;> exact ⟨rfl, (hp.setFlag _ _).setNZ _⟩
    | anc => exact ⟨rfl, (hp.setNZ _).setFlag _ _⟩
    | adc => cases o <;> exact hsame.setAlu (hsame.aluAdd _)
    | sbc => cases o <;> exact hsame.setAlu (hsame.aluSub _)
    | isc => cases o <;> exact (hwritten _).setAlu ((hwritten _).aluSub _)
    | rra =>
      have hrotated (v : Byte) (out : Bool) :
          SameButI ((writeOperand { s with p := p' } v o).setFlag .c out) ((writeOperand s v o).setFlag .c out) := by
        cases o <;> exact ⟨rfl, hp.setFlag _ _⟩
      dsimp only [ruleOf, rraRule]
      rw [hcarry]
      cases o <;> exact (hrotated _ _).setAlu ((hrotated _ _).aluAdd _)
    | arr =>
      dsimp only [ruleOf, arrRule]
      rw [hcarry]
      cases o <;> exact ⟨rfl, ((hp.setNZ _).setFlag _ _).setFlag _ _⟩
    | bit => exact ⟨rfl, ((hp.setFlag _ _).setFlag _ _).setFlag _ _⟩
    | plp | rti => exact ⟨rfl, hp.pulledStatus _⟩
    | brk | clc | sec | cli | sei | cld | sed | clv => exact ⟨rfl, hp.setFlag _ _⟩
    | _ => cases o <;> exact ⟨rfl, hp⟩

/-- Settles O51: whether an instruction is refused depends on D and not on I, and every rule but PHP's does the same. -/
theorem interruptFlagHasNoEffect : Obligations.InterruptFlagHasNoEffect := by
  intro i s t v hm ht
  have hp : AgreeButI (setFlag .i v s.p) s.p := fun k hk => getLsbD_setFlag_of_ne hk v s.p
  have hd : (s.setFlag .i v).flag .d = s.flag .d := hp.getFlag (by decide)
  have hrefused : (s.setFlag .i v).decimalRefused i.mnemonic = s.decimalRefused i.mnemonic := by
    simp only [State.decimalRefused, hd, State.setFlag_policy]
  have hrule := sameButI_ruleOf hm (s.resolved i).opnd (s.begun i) hp
  obtain ⟨t', hexec, hsame⟩ := exec_related SameButI (s' := s.setFlag .i v) ht rfl hrefused ⟨rfl, hp⟩ ⟨rfl, hp⟩ hrule
  exact ⟨t', hexec, hsame⟩

end Sys2Proof.Proofs
end

section
/-! Arithmetic against 42_arithmetic.md: binary subtraction (R171) and the NMOS decimal algorithms, digit by digit and
on valid digits (R173, R174). -/

namespace Sys2Proof.Proofs

open Sys2Proof.Machine

/-! ### Binary subtraction (R171) -/

/-- The complement of a byte in numbers. -/
theorem toNat_xor_ff (m : Byte) : (m ^^^ 0xFF).toNat = 255 - m.toNat := by
  have hnot : m ^^^ 0xFF = ~~~m := BitVec.xor_allOnes
  rw [hnot, BitVec.toNat_not]

/-- The result is the difference modulo 256. -/
theorem toNat_subBinary_value (a m : Byte) (c : Bool) :
    ((subBinary a m c).value.toNat : Int) = ((a.toNat : Int) - m.toNat - (1 - c.toNat)) % 256 := by
  rw [subBinary, BitVec.toNat_ofInt]
  omega

/-- The result is that of adding the complement. -/
theorem subBinary_value_eq_addBinary (a m : Byte) (c : Bool) :
    (subBinary a m c).value = (addBinary a (m ^^^ 0xFF) c).value := by
  have hsub := toNat_subBinary_value a m c
  have hadd := addBinary_value_carry a (m ^^^ 0xFF) c
  have hc := c.toNat_le
  have hcarry := (addBinary a (m ^^^ 0xFF) c).c.toNat_le
  rw [toNat_xor_ff] at hadd
  exact BitVec.eq_of_toNat_eq (by omega)

/-- So is the carry, which means no borrow. -/
theorem subBinary_c_eq_addBinary (a m : Byte) (c : Bool) : (subBinary a m c).c = (addBinary a (m ^^^ 0xFF) c).c := by
  have hc := c.toNat_le
  simp only [subBinary, addBinary, toNat_xor_ff, decide_eq_decide]
  omega

/-- And so is V: the complement has the other sign. -/
theorem subBinary_v_eq_addBinary (a m : Byte) (c : Bool) : (subBinary a m c).v = (addBinary a (m ^^^ 0xFF) c).v := by
  have hvalue := subBinary_value_eq_addBinary a m c
  have hsign : (m ^^^ 0xFF).getLsbD 7 = !m.getLsbD 7 := by
    rw [getLsbD_seven, getLsbD_seven, toNat_xor_ff, ← decide_not, decide_eq_decide]
    omega
  have hsub : (subBinary a m c).v =
      (a.getLsbD 7 != m.getLsbD 7 && a.getLsbD 7 != (subBinary a m c).value.getLsbD 7) := rfl
  have hadd : (addBinary a (m ^^^ 0xFF) c).v = (a.getLsbD 7 == (m ^^^ 0xFF).getLsbD 7 &&
      a.getLsbD 7 != (addBinary a (m ^^^ 0xFF) c).value.getLsbD 7) := rfl
  rw [hsub, hadd, hvalue, hsign]
  cases a.getLsbD 7 <;> cases m.getLsbD 7 <;> rfl

/-- A byte and its complement are -1 together, signed. -/
theorem toInt_xor_ff (m : Byte) : (m ^^^ 0xFF).toInt = -1 - m.toInt := by
  rw [toInt_eq_ite, toInt_eq_ite, toNat_xor_ff]
  split <;> split <;> omega

/-- Settles O24: the difference with its borrow; V is that of adding the complement, whose signed sum is the signed
difference. -/
theorem binarySubtractionIsExact : Obligations.BinarySubtractionIsExact := by
  intro a m c r d
  have hv : r.v = true ↔ a.toInt - m.toInt - (1 - c.toNat) < -128 ∨ 127 < a.toInt - m.toInt - (1 - c.toNat) := by
    rw [subBinary_v_eq_addBinary, addBinary_v_iff_sign_mismatch, sign_mismatch_iff_out_of_range, toInt_xor_ff]
    omega
  exact ⟨toNat_subBinary_value a m c, decide_eq_true_iff, hv, rfl, beq_iff_eq, subBinary_value_eq_addBinary a m c,
    subBinary_c_eq_addBinary a m c, subBinary_v_eq_addBinary a m c⟩

/-! ### Decimal addition and subtraction (R173, R174) -/

/-- The low digit of a byte, by its mask. -/
theorem toNat_and_0F (x : Byte) : (x &&& 0x0F).toNat = x.toNat % 16 := by
  rw [BitVec.toNat_and]
  exact Nat.and_two_pow_sub_one_eq_mod x.toNat 4

/-- The high digit of a byte in its place, by its mask. -/
theorem toNat_and_F0 (x : Byte) : (x &&& 0xF0).toNat = 16 * (x.toNat / 16) := by
  have hmask : x &&& (0xF0 : Byte) = x >>> 4 <<< 4 := by
    apply BitVec.eq_of_getLsbD_eq
    intro k hk
    have hplace : (0xF0 : Byte).getLsbD k = decide (4 ≤ k) := by
      revert k
      decide
    rw [BitVec.getLsbD_and, hplace, BitVec.getLsbD_shiftLeft, BitVec.getLsbD_ushiftRight]
    by_cases h : 4 ≤ k
    · simp [h, hk]
    · simp [h, Nat.lt_of_not_le h]
  rw [hmask, BitVec.toNat_shiftLeft, BitVec.toNat_ushiftRight, Nat.shiftLeft_eq, Nat.shiftRight_eq_div_pow]
  omega

/-- A high digit read as signed. -/
def signedHigh (x : Byte) : Int := if x.toNat / 16 < 8 then (x.toNat / 16 : Nat) else (x.toNat / 16 : Nat) - 16

theorem toInt_and_F0 (x : Byte) : (x &&& 0xF0).toInt = 16 * signedHigh x := by
  rw [toInt_eq_ite, toNat_and_F0, signedHigh]
  split <;> split <;> omega

/-- The digit a sum of two digits leaves: the sum itself below 10, else corrected by 6 (R173). -/
def sumDigit (t : Nat) : Nat := if t < 10 then t else (t + 6) % 16

/-- Its carry into the next digit. -/
def sumCarry (t : Nat) : Nat := if t < 10 then 0 else 1

/-- The sum of the low digits and the carry in. -/
def lowSum (a m : Byte) (c : Bool) : Nat := a.toNat % 16 + m.toNat % 16 + c.toNat

/-- The sum of the high digits and the low digit's carry. -/
def highSum (a m : Byte) (c : Bool) : Nat := a.toNat / 16 + m.toNat / 16 + sumCarry (lowSum a m c)

theorem lowSum_lt (a m : Byte) (c : Bool) : lowSum a m c < 32 := by
  have hc := c.toNat_le
  rw [lowSum]
  omega

theorem sumDigit_lt {t : Nat} (h : t < 32) : sumDigit t < 16 := by
  rw [sumDigit]
  split <;> omega

/-- The algorithm's corrected low digit holds the digit and its carry. -/
theorem corrected_lowSum {t : Nat} (h : t < 32) :
    (if t ≥ 0x0A then (t + 0x06) % 0x10 + 0x10 else t) = 16 * sumCarry t + sumDigit t := by
  rw [sumCarry, sumDigit]
  split_ifs <;> omega

/-- The algorithm of R173 on the two digit sums. -/
theorem addDecimalNmos_eq (a m : Byte) (c : Bool) :
    addDecimalNmos a m c =
      let low := sumDigit (lowSum a m c)
      let t := 16 * highSum a m c + low
      let ts := 16 * (signedHigh a + signedHigh m + sumCarry (lowSum a m c)) + low
      let t' := if t ≥ 0xA0 then t + 0x60 else t
      { value := BitVec.ofNat 8 t'
        c := decide (t' ≥ 0x100)
        v := decide (ts < -128 ∨ ts > 127)
        n := t.testBit 7
        z := (a.toNat + m.toNat + c.toNat) % 0x100 == 0 } := by
  have hlow := corrected_lowSum (lowSum_lt a m c)
  have ht (k l : Nat) : 16 * (a.toNat / 16) + 16 * (m.toNat / 16) + (16 * k + l) =
      16 * (a.toNat / 16 + m.toNat / 16 + k) + l := by omega
  have hts (k l : Nat) : 16 * signedHigh a + 16 * signedHigh m + ((16 * k + l : Nat) : Int) =
      16 * (signedHigh a + signedHigh m + k) + l := by omega
  rw [lowSum] at hlow
  simp only [addDecimalNmos]
  rw [toNat_and_0F, toNat_and_0F, toNat_and_F0, toNat_and_F0, toInt_and_F0, toInt_and_F0, hlow, ht, hts]
  rfl

theorem highSum_lt (a m : Byte) (c : Bool) : highSum a m c < 32 := by
  rw [highSum, sumCarry]
  split <;> omega

/-- The sum is its two digits, each corrected. -/
theorem toNat_addDecimalNmos_value (a m : Byte) (c : Bool) :
    (addDecimalNmos a m c).value.toNat = 16 * sumDigit (highSum a m c) + sumDigit (lowSum a m c) := by
  have hlow := sumDigit_lt (lowSum_lt a m c)
  have hhigh := highSum_lt a m c
  rw [addDecimalNmos_eq, BitVec.toNat_ofNat, sumDigit.eq_1 (highSum a m c)]
  split <;> split <;> omega

/-- C is the high digit's carry. -/
theorem addDecimalNmos_c_iff (a m : Byte) (c : Bool) : (addDecimalNmos a m c).c = true ↔ 10 ≤ highSum a m c := by
  have hlow := sumDigit_lt (lowSum_lt a m c)
  rw [addDecimalNmos_eq, decide_eq_true_iff]
  split <;> omega

/-- N is bit 3 of the high digit sum before its correction. -/
theorem addDecimalNmos_n_iff (a m : Byte) (c : Bool) :
    (addDecimalNmos a m c).n = true ↔ highSum a m c / 8 % 2 = 1 := by
  have hlow := sumDigit_lt (lowSum_lt a m c)
  rw [addDecimalNmos_eq]
  dsimp only
  rw [Nat.testBit_eq_decide_div_mod_eq, decide_eq_true_iff]
  omega

/-- V is whether the sum of the signed high digits leaves a signed digit's range. -/
theorem addDecimalNmos_v_iff (a m : Byte) (c : Bool) :
    (addDecimalNmos a m c).v = true ↔
      signedHigh a + signedHigh m + sumCarry (lowSum a m c) < -8 ∨
        7 < signedHigh a + signedHigh m + sumCarry (lowSum a m c) := by
  have hlow := sumDigit_lt (lowSum_lt a m c)
  rw [addDecimalNmos_eq, decide_eq_true_iff]
  omega

/-- The digit a difference of two digits leaves: the difference itself, corrected by 6 where it is negative (R174). -/
def difDigit (t : Int) : Int := if t < 0 then (t - 6) % 16 else t

/-- The difference of the low digits and the borrow in. -/
def lowDif (a m : Byte) (c : Bool) : Int := (a.toNat % 16 : Nat) - (m.toNat % 16 : Nat) - (1 - c.toNat)

/-- The difference of the high digits and the low digit's borrow. -/
def highDif (a m : Byte) (c : Bool) : Int :=
  (a.toNat / 16 : Nat) - (m.toNat / 16 : Nat) - if lowDif a m c < 0 then 1 else 0

/-- The difference is its two digits, each corrected. -/
theorem toNat_subDecimalNmos_value (a m : Byte) (c : Bool) :
    ((subDecimalNmos a m c).value.toNat : Int) = 16 * difDigit (highDif a m c) + difDigit (lowDif a m c) := by
  have hc := c.toNat_le
  simp only [subDecimalNmos, toNat_and_0F, toNat_and_F0, BitVec.toNat_ofInt, difDigit, highDif, lowDif]
  split_ifs <;> omega

/-- Settles O60: the sum's value and its C, N and V are those of the two digit sums, the difference's value that of the
two digit differences; Z and the other flags are the definition's. -/
theorem decimalArithmeticDigitByDigit : Obligations.DecimalArithmeticDigitByDigit := by
  intro a m c
  exact ⟨toNat_addDecimalNmos_value a m c, addDecimalNmos_c_iff a m c, addDecimalNmos_n_iff a m c,
    addDecimalNmos_v_iff a m c, beq_iff_eq, toNat_subDecimalNmos_value a m c, rfl⟩

/-- The byte of two decimal digits. -/
def bcdByte (n : Nat) : Byte := BitVec.ofNat 8 (n / 10 % 10 * 16 + n % 10)

theorem toNat_bcdByte (n : Nat) : (bcdByte n).toNat = n / 10 % 10 * 16 + n % 10 := by
  rw [bcdByte, BitVec.toNat_ofNat]
  omega

theorem toNat_bcdByte_digits {t o : Nat} (ht : t < 10) (ho : o < 10) : (bcdByte (t * 10 + o)).toNat = 16 * t + o := by
  rw [toNat_bcdByte]
  omega

/-- The two digits of a number modulo 100. -/
theorem toNat_bcdByte_mod_hundred {n : Nat} {h l : Int} (hn : (n : Int) = 10 * h + l) (hlo : 0 ≤ l) (hhi : l < 10) :
    ((bcdByte (n % 100)).toNat : Int) = 16 * (h % 10) + l := by
  rw [toNat_bcdByte]
  omega

/-- Below 20 a digit sum is corrected to its last decimal digit. -/
theorem sumDigit_eq_mod {t : Nat} (h : t < 20) : sumDigit t = t % 10 := by
  rw [sumDigit]
  split <;> omega

theorem sumCarry_eq_div {t : Nat} (h : t < 20) : sumCarry t = t / 10 := by
  rw [sumCarry]
  split <;> omega

/-- From -10 on a digit difference is corrected to its last decimal digit. -/
theorem difDigit_eq_emod {t : Int} (hlo : -10 ≤ t) (hhi : t < 10) : difDigit t = t % 10 := by
  rw [difDigit]
  split <;> omega

section

variable {xt xo yt yo : Nat} (hxt : xt < 10) (hxo : xo < 10) (hyt : yt < 10) (hyo : yo < 10) (c : Bool)
include hxt hxo hyt hyo

/-- The decimal sum of two bytes of valid digits is their sum modulo 100, with its carry: the digit sums are in the
range in which a correction leaves a decimal digit. -/
theorem addDecimalNmos_bcdByte :
    (addDecimalNmos (bcdByte (xt * 10 + xo)) (bcdByte (yt * 10 + yo)) c).value =
        bcdByte ((xt * 10 + xo + (yt * 10 + yo) + c.toNat) % 100) ∧
      ((addDecimalNmos (bcdByte (xt * 10 + xo)) (bcdByte (yt * 10 + yo)) c).c = true ↔
        100 ≤ xt * 10 + xo + (yt * 10 + yo) + c.toNat) := by
  have hc := c.toNat_le
  have hx := toNat_bcdByte_digits hxt hxo
  have hy := toNat_bcdByte_digits hyt hyo
  have hlow : lowSum (bcdByte (xt * 10 + xo)) (bcdByte (yt * 10 + yo)) c = xo + yo + c.toNat := by
    rw [lowSum, hx, hy]
    omega
  have hhigh : highSum (bcdByte (xt * 10 + xo)) (bcdByte (yt * 10 + yo)) c = xt + yt + (xo + yo + c.toNat) / 10 := by
    rw [highSum, hlow, sumCarry_eq_div (by omega), hx, hy]
    omega
  constructor
  · apply BitVec.eq_of_toNat_eq
    rw [toNat_addDecimalNmos_value, hhigh, hlow, sumDigit_eq_mod (by omega), sumDigit_eq_mod (by omega), toNat_bcdByte]
    omega
  · rw [addDecimalNmos_c_iff, hhigh]
    omega

/-- The decimal difference of two bytes of valid digits is their difference modulo 100, and C means no borrow. -/
theorem subDecimalNmos_bcdByte :
    (subDecimalNmos (bcdByte (xt * 10 + xo)) (bcdByte (yt * 10 + yo)) c).value =
        bcdByte ((100 + (xt * 10 + xo) + c.toNat - (yt * 10 + yo) - 1) % 100) ∧
      ((subDecimalNmos (bcdByte (xt * 10 + xo)) (bcdByte (yt * 10 + yo)) c).c = true ↔
        yt * 10 + yo + 1 ≤ xt * 10 + xo + c.toNat) := by
  have hc := c.toNat_le
  have hx := toNat_bcdByte_digits hxt hxo
  have hy := toNat_bcdByte_digits hyt hyo
  have hvalue := toNat_subDecimalNmos_value (bcdByte (xt * 10 + xo)) (bcdByte (yt * 10 + yo)) c
  have hexact : (subDecimalNmos (bcdByte (xt * 10 + xo)) (bcdByte (yt * 10 + yo)) c).c = true ↔
      (0 : Int) ≤ (bcdByte (xt * 10 + xo)).toNat - (bcdByte (yt * 10 + yo)).toNat - (1 - c.toNat) :=
    decide_eq_true_iff
  have hlow : lowDif (bcdByte (xt * 10 + xo)) (bcdByte (yt * 10 + yo)) c = xo - yo - (1 - c.toNat) := by
    rw [lowDif, hx, hy]
    omega
  have hhigh : highDif (bcdByte (xt * 10 + xo)) (bcdByte (yt * 10 + yo)) c =
      xt - yt + (xo - yo - (1 - c.toNat)) / 10 := by
    rw [highDif, hlow, hx, hy]
    split <;> omega
  rw [hhigh, hlow, difDigit_eq_emod (by omega) (by omega), difDigit_eq_emod (by omega) (by omega)] at hvalue
  constructor
  · have hbcd := toNat_bcdByte_mod_hundred (n := 100 + (xt * 10 + xo) + c.toNat - (yt * 10 + yo) - 1)
      (h := xt - yt + (xo - yo - (1 - c.toNat)) / 10 + 10) (l := (xo - yo - (1 - c.toNat)) % 10)
      (by omega) (by omega) (by omega)
    apply BitVec.eq_of_toNat_eq
    omega
  · rw [hexact, hx, hy]
    omega

end

/-- Settles O25: both are the BCD laws, the bytes being those of valid digits. -/
theorem decimalArithmeticOnBcd : Obligations.DecimalArithmeticOnBcd := by
  intro xt xo yt yo c
  obtain ⟨hsum, hcarry⟩ := addDecimalNmos_bcdByte xt.isLt xo.isLt yt.isLt yo.isLt c
  obtain ⟨hdif, hborrow⟩ := subDecimalNmos_bcdByte xt.isLt xo.isLt yt.isLt yo.isLt c
  exact ⟨hsum, hcarry, hdif, hborrow⟩

end Sys2Proof.Proofs
end

section
/-! The instructions that can fault or be refused: ADC and SBC (42_arithmetic.md R172, R175, R176; R273), RRA, ISC and
ARR (45_illegal.md R264, R268, R271), the refusal (60_exceptions.md R305, R306) and the unmapped bytes (R301, R302,
R260). -/

namespace Sys2Proof.Proofs

open Sys2Proof.Machine

/-! ### The refusal (R172, R305, R306) -/

/-- ADC, SBC, RRA and ISC are refused exactly with `P.D = 1` under `P_DECIMAL = Refuse`. -/
theorem decimalRefused_eq_true_iff {m : Mnemonic} (hm : m ∈ [.adc, .sbc, .rra, .isc]) (s : State) :
    s.decimalRefused m = true ↔ s.flag .d = true ∧ s.policy.decimal = .refuse := by
  have hrow : s.decimalRefused m = (s.flag .d && s.policy.decimal == .refuse) := by
    cases m with
    | adc | sbc | rra | isc => rfl
    | _ => exact absurd hm (by decide)
  rw [hrow, Bool.and_eq_true, beq_iff_eq]

/-- ARR is refused exactly with `P.D = 1` unless `P_DECIMAL = Binary`. -/
theorem decimalRefused_arr_iff (s : State) :
    s.decimalRefused .arr = true ↔ s.flag .d = true ∧ s.policy.decimal ≠ .binary := by
  rw [State.decimalRefused, Bool.and_eq_true, bne_iff_ne]

/-- A mapped instruction that is refused changes `status` alone. -/
theorem exec_of_refused {i : Instr} {s : State} (hmapped : i.mapped s.policy = true)
    (hrefused : s.decimalRefused i.mnemonic = true) :
    exec i s = .next { s with status := .refused .decimalMode i.opcode s.pc } := by
  rw [exec_eq_perform, perform, if_pos hmapped, if_pos hrefused]
  rfl

/-- Settles O43: both lists are those of the refusal. -/
theorem decimalModeRefusal : Obligations.DecimalModeRefusal := by
  intro i s hmapped hd h
  apply exec_of_refused hmapped
  obtain ⟨hm, hrefuse⟩ | ⟨hm, hbinary⟩ := h
  · exact (decimalRefused_eq_true_iff hm s).mpr ⟨hd, hrefuse⟩
  · rw [hm]
    exact (decimalRefused_arr_iff s).mpr ⟨hd, hbinary⟩

/-- A mapped instruction that adds or subtracts runs its rule where the decimal mode does not refuse it. -/
theorem exec_of_not_refuse {i : Instr} {m : Mnemonic} {s : State} (hmapped : i.mapped s.policy = true)
    (hd : s.flag .d = true → s.policy.decimal ≠ .refuse) (hi : i.mnemonic = m) (hm : m ∈ [.adc, .sbc, .rra, .isc]) :
    exec i s = .next (ruleOf m (s.resolved i).opnd (s.begun i)) := by
  subst hi
  apply exec_runs i s hmapped
  rw [← Bool.not_eq_true, decimalRefused_eq_true_iff hm]
  exact fun h => hd h.1 h.2

/-! ### ADC and SBC (R172, R175, R176, R273) -/

/-- What P.D and `P_DECIMAL` choose (R172). -/
theorem aluAdd_eq (s : State) (m : Byte) :
    s.aluAdd m = if s.flag .d = true ∧ s.policy.decimal = .nmos then addDecimalNmos s.a m (s.flag .c)
      else addBinary s.a m (s.flag .c) := by
  simp only [State.aluAdd, Bool.and_eq_true, beq_iff_eq]

theorem aluSub_eq (s : State) (m : Byte) :
    s.aluSub m = if s.flag .d = true ∧ s.policy.decimal = .nmos then subDecimalNmos s.a m (s.flag .c)
      else subBinary s.a m (s.flag .c) := by
  simp only [State.aluSub, Bool.and_eq_true, beq_iff_eq]

/-- Settles O26: where it is not refused each runs its rule, on an operand that the advance of `PC` and `cycles` left
as it was; the sum or difference is the one R172 chooses. -/
theorem adcAndSbcWriteResultAndNVZC : Obligations.AdcAndSbcWriteResultAndNVZC := by
  intro i s hmapped hd b m nmos after
  have hadc (hm : i.mnemonic = .adc) : exec i s = after (s.aluAdd m) := by
    rw [exec_of_not_refuse hmapped hd hm (by decide)]
    exact congrArg (fun v => Host.Outcome.next (b.setAlu (s.aluAdd v))) (readOperand_begun s i _)
  have hsbc (hm : i.mnemonic = .sbc) : exec i s = after (s.aluSub m) := by
    rw [exec_of_not_refuse hmapped hd hm (by decide)]
    exact congrArg (fun v => Host.Outcome.next (b.setAlu (s.aluSub v))) (readOperand_begun s i _)
  rw [aluAdd_eq] at hadc
  rw [aluSub_eq] at hsbc
  exact ⟨fun hm h => (hadc hm).trans (congrArg after (if_pos h)),
    fun hm h => (hadc hm).trans (congrArg after (if_neg h)),
    fun hm h => (hsbc hm).trans (congrArg after (if_pos h)),
    fun hm h => (hsbc hm).trans (congrArg after (if_neg h))⟩

/-! ### RRA, ISC and ARR (R264, R268, R271) -/

/-- The later of two writes of a flag stands (R28). -/
theorem setFlag_setFlag_same (f : Flag) (v w : Bool) (p : Byte) : setFlag f v (setFlag f w p) = setFlag f v p := by
  apply BitVec.eq_of_getLsbD_eq
  intro k hk
  rw [getLsbD_setFlag, getLsbD_setFlag, getLsbD_setFlag]
  split <;> rfl

/-- An addition right after a write of C takes that carry, and its own carry stands. -/
theorem setAlu_aluAdd_setFlag_c (s : State) (out : Bool) (m : Byte) :
    (s.setFlag .c out).setAlu ((s.setFlag .c out).aluAdd m) =
      s.setAlu (if s.flag .d && s.policy.decimal == .nmos then addDecimalNmos s.a m out else addBinary s.a m out) := by
  have hd : (s.setFlag .c out).flag .d = s.flag .d := getFlag_setFlag_of_ne (by decide) out s.p
  have hc : (s.setFlag .c out).flag .c = out := getFlag_setFlag_same .c out s.p
  have hsetAlu (r : AluResult) : (s.setFlag .c out).setAlu r = s.setAlu r := by
    have hflags : r.setFlags (setFlag .c out s.p) = r.setFlags s.p := by
      rw [AluResult.setFlags, setFlag_setFlag_same]
      rfl
    exact congrArg (State.setP (s.setA r.value)) hflags
  rw [hsetAlu, State.aluAdd, hd, hc]
  rfl

theorem mapped_of_rra_or_isc {i : Instr} {p : Policy} (h : i.mnemonic ∈ [.rra, .isc]) (hstable : p.illegal = .stable) :
    i.mapped p = true := by
  have hset : i.descriptor.set = .illegal := by
    have hrow := set_of_mnemonic i
    simp only [List.mem_cons, List.not_mem_nil, or_false] at h
    obtain hm | hm := h <;> simpa only [hm] using hrow
  apply mapped_of_stable _ hstable
  rw [hset]
  exact OpSet.noConfusion

/-- Settles O40: RRA and ISC run their rules at the `Mem` operand, where RRA's addition takes the carry of its rotate;
ARR runs its rule on its byte. -/
theorem illegalAddSubtractAndArr : Obligations.IllegalAddSubtractAndArr := by
  refine ⟨fun i s ea hstable hea hd => ?memory, fun s v hstable hd => ?arr⟩
  case memory =>
    intro m ror inc nmos after
    have hruns {mn : Mnemonic} (hi : i.mnemonic = mn) (hm : mn ∈ [.rra, .isc]) :
        exec i s = .next (ruleOf mn (.mem ea) (s.begun i)) :=
      hea ▸ exec_of_not_refuse (mapped_of_rra_or_isc (hi ▸ hm) hstable) hd hi
        (List.mem_cons_of_mem _ (List.mem_cons_of_mem _ hm))
    have hrra := setAlu_aluAdd_setFlag_c ((s.begun i).write ea ror) (m.getLsbD 0) ror
    exact ⟨fun hm => (hruns hm (by decide)).trans (congrArg Host.Outcome.next hrra), fun hm => hruns hm (by decide)⟩
  case arr =>
    have hmapped : (Instr.arrImm v).mapped s.policy = true := mapped_of_stable OpSet.noConfusion hstable
    have hrefused : s.decimalRefused .arr = false := by
      rw [← Bool.not_eq_true, decimalRefused_arr_iff]
      exact fun h => h.2 (hd h.1)
    exact exec_runs (.arrImm v) s hmapped hrefused

/-! ### The unmapped bytes (R301, R302, R260) -/

/-- Settles O42: the rows that are never mapped, and the illegal rows where `P_ILLEGAL = None`, take the fault. -/
theorem unmappedBytesFault : Obligations.UnmappedBytesFault := by
  intro s faulted
  refine ⟨fun j => rfl, fun j => rfl, rfl, rfl, rfl, rfl, rfl, rfl, fun i hset hnone => ?illegal⟩
  case illegal =>
    have hmapped : i.mapped s.policy = false := by
      rw [Instr.mapped, hset, hnone]
      rfl
    rw [exec_eq_perform, perform, hmapped]
    rfl

end Sys2Proof.Proofs
end

section
/-! Memory and its addresses: the canonical form (20_memory.md R50, R52), words at the top of memory (R53, R54), the
indexed and indirect modes (30_encoding.md R94 to R98), and what is charged before an instruction's rule (R84, R86). -/

namespace Sys2Proof.Proofs

open Sys2Proof.Machine

/-! ### The canonical form (R50, R52) -/

/-- An entry of the form in parts: its address in range, its byte not 0x00, and the rest from the next address on. -/
theorem wfFrom_cons_iff {lo a : Nat} {v : Byte} {m : Memory} :
    Memory.wfFrom lo ((a, v) :: m) = true ↔
      lo ≤ a ∧ a < 65536 ∧ v ≠ Memory.unlisted ∧ Memory.wfFrom (a + 1) m = true := by
  simp [Memory.wfFrom, and_assoc]

/-- The first entry of the form is read at its address, and nothing is listed below it. -/
theorem read_head (a : Nat) (v : Byte) (m : Memory) : Memory.read ((a, v) :: m) a = v := if_pos rfl

/-- An entry that another memory in the form has as well is not below that memory's first entry. -/
theorem first_le_of_read_eq {lo a a' : Nat} {v v' : Byte} {m' : Memory} (hv : v ≠ Memory.unlisted)
    (h' : Memory.wfFrom lo ((a', v') :: m') = true) (hread : v = Memory.read ((a', v') :: m') a) : a' ≤ a := by
  obtain ⟨-, ha', hv', hm'⟩ := wfFrom_cons_iff.mp h'
  by_contra hlt
  have hform : Memory.wfFrom a' ((a', v') :: m') = true := wfFrom_cons_iff.mpr ⟨le_rfl, ha', hv', hm'⟩
  exact hv (hread.trans (Memory.read_below hform (by omega)))

/-- Two memories in the form that read alike have the same first entry, and then the same rest: by induction on the
first. -/
theorem eq_of_read_eq {lo lo' : Nat} {m m' : Memory} (h : Memory.wfFrom lo m = true) (h' : Memory.wfFrom lo' m' = true)
    (hread : ∀ a < 65536, Memory.read m a = Memory.read m' a) : m = m' := by
  induction m generalizing lo lo' m' with
  | nil =>
    cases m' with
    | nil => rfl
    | cons e m' =>
      obtain ⟨a, v⟩ := e
      obtain ⟨-, ha, hv, -⟩ := wfFrom_cons_iff.mp h'
      exact absurd ((read_head a v m').symm.trans (hread a ha).symm) hv
  | cons e m ih =>
    obtain ⟨a, v⟩ := e
    obtain ⟨-, ha, hv, hm⟩ := wfFrom_cons_iff.mp h
    cases m' with
    | nil => exact absurd ((read_head a v m).symm.trans (hread a ha)) hv
    | cons e' m' =>
      obtain ⟨a', v'⟩ := e'
      obtain ⟨-, ha', hv', hm'⟩ := wfFrom_cons_iff.mp h'
      have hle : a' ≤ a := first_le_of_read_eq hv h' ((read_head a v m).symm.trans (hread a ha))
      have hge : a ≤ a' := first_le_of_read_eq hv' h ((read_head a' v' m').symm.trans (hread a' ha').symm)
      obtain rfl : a = a' := Nat.le_antisymm hge hle
      obtain rfl : v = v' := (read_head a v m).symm.trans ((hread a ha).trans (read_head a v' m'))
      have hrest : ∀ b < 65536, Memory.read m b = Memory.read m' b := by
        intro b hb
        by_cases hba : b = a
        · rw [hba, Memory.read_below hm (Nat.lt_succ_self a), Memory.read_below hm' (Nat.lt_succ_self a)]
        · simpa only [Memory.read_entry, if_neg hba] using hread b hb
      rw [ih hm hm' hrest]

/-- Settles O11: a write keeps the form; memories that read alike are equal entry by entry. -/
theorem memoryFormIsCanonical : Obligations.MemoryFormIsCanonical := by
  refine ⟨fun m a v h => Memory.wf_write h a v, fun m m' h h' hread => eq_of_read_eq h h' fun a ha => ?_⟩
  have hbyte := hread (BitVec.ofNat 16 a)
  rwa [BitVec.toNat_ofNat, Nat.mod_eq_of_lt ha] at hbyte

/-! ### Words (R53, R54) -/

/-- The two bytes of a word are at two addresses, at the wrap too. -/
theorem ne_add_one (a : Addr) : a ≠ a + 1 := by bv_omega

/-- Settles O12: each byte of the word is read back where it was written; the top address's next one is 0x0000. -/
theorem wordAccessWrapsAtTheTop : Obligations.WordAccessWrapsAtTheTop := by
  refine ⟨fun s a v hwf => ⟨?word, fun b hlow hhigh => ?frame⟩, fun s => toNat_readWord s 0xFFFF⟩
  case word =>
    have hlow : (s.writeWord a v).read a = lowByte v :=
      (State.read_write_of_ne _ (ne_add_one a) _).trans (read_write_same s hwf a _)
    have hhigh : (s.writeWord a v).read (a + 1) = highByte v := read_write_same _ (Memory.wf_write hwf a _) _ _
    rw [State.readWord, hlow, hhigh, wordOfBytes_bytes]
  case frame =>
    exact (State.read_write_of_ne _ hhigh _).trans (State.read_write_of_ne s hlow _)

/-! ### The indexed and indirect modes (R94 to R98) -/

theorem zeroPageAddr_eq_ofNat (b : Byte) : zeroPageAddr b = BitVec.ofNat 16 b.toNat := by
  apply BitVec.eq_of_toNat_eq
  rw [toNat_zeroPageAddr, BitVec.toNat_ofNat]
  omega

/-- A word in page zero in numbers, its high byte's address wrapping within the page. -/
theorem toNat_zeroPageWord (s : State) (b : Byte) :
    (s.zeroPageWord b).toNat = (s.read (BitVec.ofNat 16 b.toNat)).toNat +
      256 * (s.read (BitVec.ofNat 16 ((b.toNat + 1) % 256))).toNat := by
  have hnext : (b + 1).toNat = (b.toNat + 1) % 256 := BitVec.toNat_add b 1
  rw [State.zeroPageWord, wordOfBytes_toNat, zeroPageAddr_eq_ofNat, zeroPageAddr_eq_ofNat, hnext]

/-- An indexed address in numbers, and when it is on another page than its base. -/
theorem indexed_in_numbers (base : Addr) (index : Byte) :
    ∃ ea : Addr, (indexed base index).opnd = .mem ea ∧ ea.toNat = (base.toNat + index.toNat) % 65536 ∧
      ((indexed base index).crossed = true ↔ ea.toNat / 256 ≠ base.toNat / 256) := by
  refine ⟨base + index.setWidth 16, rfl, ?_, crossesPage_iff _ _⟩
  rw [BitVec.toNat_add, BitVec.toNat_setWidth_of_le (by decide)]

/-- The high byte of JMP indirect's word is on the pointer's own page (R96). -/
theorem page_masks_eq_ofNat (w : Addr) :
    (w &&& 0xFF00) ||| ((w + 1) &&& 0x00FF) = BitVec.ofNat 16 (w.toNat / 256 * 256 + (w.toNat + 1) % 256) := by
  have hnext : (w + 1).toNat = (w.toNat + 1) % 65536 := BitVec.toNat_add w 1
  apply BitVec.eq_of_toNat_eq
  rw [or_page_masks, wordOfBytes_toNat, highByte_toNat, lowByte_toNat, hnext, BitVec.toNat_ofNat]
  omega

/-- Settles O17: each mode is an indexed address or a word read from memory, in numbers. -/
theorem indexedAndIndirectModesResolve : Obligations.IndexedAndIndirectModesResolve := by
  intro s b w byteAt zpWord sum
  refine ⟨indexed_in_numbers w s.x, indexed_in_numbers w s.y, ?indirectY, ⟨_, rfl, ?indirectX⟩, ⟨_, rfl, ?indirect⟩⟩
  case indirectY =>
    have h := indexed_in_numbers (s.zeroPageWord b) s.y
    rwa [toNat_zeroPageWord] at h
  case indirectX =>
    rw [toNat_zeroPageWord, BitVec.toNat_add]
  case indirect =>
    have hlow : byteAt w.toNat = (s.read w).toNat := by
      simp only [byteAt, BitVec.ofNat_toNat, BitVec.setWidth_eq]
    rw [State.indirectWord, wordOfBytes_toNat, page_masks_eq_ofNat, hlow]

/-! ### Before the rule (R84, R86) -/

/-- The rows that pay for a page crossing are those of the read class in the three indexed modes that can cross: row by
row of R102's table. -/
theorem penalty_eq (i : Instr) :
    i.descriptor.penalty = (decide (i.descriptor.cls = .read) &&
      match i.mode with
      | .absoluteX _ | .absoluteY _ | .indirectY _ => true
      | _ => false) := by
  cases i <;> rfl

/-- Settles O8: `PC` and `cycles` are the definition's; 1 cycle more is charged where the row pays and the resolver's
page-cross flag, which compares page numbers, is set. -/
theorem begunAdvancesPcAndCharges : Obligations.BegunAdvancesPcAndCharges := by
  intro i s leaves pays pc
  have hpays : (i.descriptor.penalty && (s.resolved i).crossed) = true ↔ pays := by
    rw [penalty_eq, Bool.and_eq_true, Bool.and_eq_true, decide_eq_true_iff, and_assoc, State.resolved]
    refine and_congr_right fun _ => ?_
    cases i.mode with
    | absoluteX | absoluteY | indirectY => exact (and_iff_right rfl).trans (crossesPage_iff _ _)
    | _ => exact iff_of_false (fun h => Bool.noConfusion h.1) id
  obtain ⟨-, hlen, -⟩ := Laws.EncodedLength.ofMode i
  have hpc : pc = s.pc + BitVec.ofNat 16 i.length := congrArg (fun n => s.pc + BitVec.ofNat 16 n) hlen
  have hbegun : s.begun i = { s with pc := pc, cycles := s.cycles + s.cost i } := by
    rw [hpc]
    rfl
  refine ⟨fun h => ?pays, fun h => ?free⟩
  case pays => rw [hbegun, State.cost, if_pos (hpays.mpr h), Nat.add_assoc]
  case free => rw [hbegun, State.cost, if_neg (hpays.not.mpr h), Nat.add_zero]

end Sys2Proof.Proofs
end
